-- ==== Sys2Proof/Word.lean ====
section
/-! DEFINITION. The plain word types of the model: bytes of the configuration image and of payloads, sets of addresses.
Everything the manual gives as a quantity (mV, 0.1 °C, A, µs, counts) is an exact `Nat` or `Int`, as its arithmetic is exact. -/

namespace Sys2Proof

/-- One byte of the configuration image or of a notice's payload (chapter 12). -/
abbrev Byte := BitVec 8

/-- A 32-bit set of addresses, address `a` at weight `2^a` (chapter 12.1: PRESENCE, CLOSED; 12.4: membership list). -/
abbrev AddrSet := BitVec 32

end Sys2Proof
end

