-- ==== Sys2Proof/Syntax.lean ====
section
/-! DEFINITION. The commands of the block: one constructor per row of spec/opcode_table.json, in the table's order.

Every command but the two resets and the loss of supply carries `dt`: the time, in µs of the station's own time base (R2), that
has passed since the command before it. That is how time enters the machine (DESIGN CHOICE, notes/assumptions/1.md). The other operands are
what the station takes in from outside at that step: pin levels, line bits, raw codes, the configuration image. -/

namespace Sys2Proof

/-- One bit period of LDATA as the station meets it: whether another station pulls the line low, and whether the station's own
driver, or its connection, has failed in this bit, so that a dominant bit it drives does not reach its own sample (R1, R13). -/
structure LineBit where
  peers : Bool
  broken : Bool
  deriving DecidableEq, Repr

/-- What the station meets on LSYNC at an expiry of its frame timer (R7, R14): the pulse is recognized as a fall 2 µs later, it
is not, or LSYNC was already low at the instant of expiry. -/
inductive ExpiryLine where
  | echoed | unechoed | alreadyLow
  deriving DecidableEq, Repr

/-- The pins read at the end of a reset: straps (R187), CONT_AUX (R116, closed = true), ISOLATE (R126, pressed = true) and the
level of LSYNC (R15, low = true). -/
structure ResetPins where
  address : BitVec 5
  rolePlant : Bool
  roleGrid : Bool
  roleSupp : Bool
  contAux : Bool
  isolate : Bool
  lsyncLow : Bool
  deriving DecidableEq, Repr

/-- Levels on GRID_OK, BRK_AUX and PCS_READY at the instant GRID starts (R169). -/
structure GridPins where
  gridOk : Bool
  brkAux : Bool
  pcsReady : Bool
  deriving DecidableEq, Repr

/-- Loop resistance of the six fire lines in Ω (R149). -/
structure Loops where
  fl0 : Nat
  fl1 : Nat
  fl2 : Nat
  fl3 : Nat
  fl4 : Nat
  fl5 : Nat
  deriving DecidableEq, Repr

/-- Inputs sampled at a hand-over: fire loops (R149) and CH_FAULT (R145). -/
structure HandOverPins where
  loops : Loops
  chFault : Bool
  deriving DecidableEq, Repr

/-- Inputs sampled at an indicator tick: ISOLATE (R126), fire loops in LISTENING and FAULT (R149), REL_CONF (R165). -/
structure TickPins where
  isolate : Bool
  loops : Loops
  relConf : Bool
  deriving DecidableEq, Repr

/-- Which timer of the plant reached its limit (R140); stages are numbered 1 to 4. -/
inductive PlantTimer where
  | on (stage : Nat) | off (stage : Nat) | stagger
  deriving DecidableEq, Repr

/-- The commands, one per row of spec/opcode_table.json. -/
inductive Instr where
  | powerOnReset (pins : ResetPins)
  | pinReset (pins : ResetPins)
  | configReadComplete (dt : Nat) (image : List Byte) (pins : GridPins)
  | silenceLimit (dt : Nat) (line : ExpiryLine)
  | listeningFall (dt : Nat) (pins : HandOverPins)
  | frameTimerExpiry (dt : Nat) (line : ExpiryLine)
  | frameArrival (dt : Nat) (ldata : List LineBit) (pins : HandOverPins)
  | lineStuckDetect (dt : Nat)
  | missingFrameEvent (dt : Nat) (pins : HandOverPins)
  | noticeSlotEnd (dt : Nat) (ldata : List LineBit)
  | unknownKindNotice (dt : Nat)
  | rackJoin (dt : Nat)
  | rackLeave (dt : Nat)
  | closeRequest (dt : Nat)
  | openRequest (dt : Nat)
  | lockoutClear (dt : Nat)
  | alarmReset (dt : Nat)
  | profileSelect (dt : Nat)
  | balanceSet (dt : Nat)
  | statusRead (dt : Nat)
  | snapshotRead (dt : Nat)
  | deadBusClaim (dt : Nat)
  | roleClaim (dt : Nat)
  | reportNoticeTaken (dt : Nat)
  | scanStart (dt : Nat)
  | conversionEnd (dt : Nat) (code : Int)
  | scanCompletion (dt : Nat)
  | indicatorTick (dt : Nat) (pins : TickPins)
  | isolateHoldExpiry (dt : Nat)
  | uptimeTick (dt : Nat)
  | contAuxChange (dt : Nat) (closed : Bool)
  | closeTimerExpiry (dt : Nat)
  | openTimerExpiry (dt : Nat)
  | claimSeenExpiry (dt : Nat)
  | gridOkRise (dt : Nat)
  | gridOkFall (dt : Nat)
  | reconnectDelayReached (dt : Nat)
  | brkAuxClose (dt : Nat)
  | brkAuxOpen (dt : Nat)
  | pcsReadyChange (dt : Nat) (ready : Bool)
  | brkClosePulseEnd (dt : Nat)
  | gridCloseTimerExpiry (dt : Nat)
  | tripTimerExpiry (dt : Nat)
  | countdownExpiry (dt : Nat)
  | releasePulseEnd (dt : Nat)
  | confirmationWatchTimeout (dt : Nat)
  | plantTimerLimit (dt : Nat) (timer : PlantTimer)
  | syncPhaseEnd (dt : Nat)
  | fieldAreaEnd (dt : Nat) (ldata : List LineBit)
  | lsyncPulseEnd (dt : Nat)
  | lsyncRise (dt : Nat)
  | supplyLoss
  deriving DecidableEq, Repr

end Sys2Proof
end

