-- ==== Sys2Proof/Config.lean ====
section
/-! DEFINITION. The settings a station runs on (chapter 11.2, 12.4): the types only. Reading them from the image, checking them
and the built-in set of R190 stand in Sys2Proof/Machine/Image.lean. The manual leaves no value free, so nothing here is opaque. -/

namespace Sys2Proof

/-- Type of a fire line (R151, coding in 12.4). -/
inductive LineType where
  | smoke | heat | gas | callpoint | hold | door | unused
  deriving DecidableEq, Repr

/-- Mode of a fire line (R151). -/
inductive LineMode where
  | level | edge
  deriving DecidableEq, Repr

/-- Type and mode of one fire line (R151). -/
structure LineCfg where
  type : LineType
  mode : LineMode
  deriving DecidableEq, Repr

/-- Gain (16384 is unity) and offset of one channel (R69). -/
structure Calib where
  gain : Int
  offset : Int
  deriving DecidableEq, Repr

/-- One breakpoint (T, p) of a derating table (R98); T in 0.1 °C, p in percent. -/
structure Breakpoint where
  temp : Int
  percent : Int
  deriving DecidableEq, Repr

/-- One derating profile (R98). -/
structure Profile where
  charge : List Breakpoint
  discharge : List Breakpoint
  chargeKnee : Int
  chargeCeiling : Int
  dischargeFloor : Int
  dischargeKnee : Int
  deriving DecidableEq, Repr

/-- The configuration in use (12.4, R190). -/
structure Config where
  /-- membership list (R36) -/
  members : AddrSet
  /-- commander list (R56) -/
  commanders : List Nat
  /-- cell count n (R64) -/
  cellCount : Nat
  /-- temperature set, TSk at bit k (R64) -/
  tempSet : Byte
  /-- balance-enable default (R90) -/
  balanceDefault : Bool
  /-- calibration of the 26 channels (R69) -/
  calib : List Calib
  lowTrip : Int
  lowWarn : Int
  highWarn : Int
  highTrip : Int
  /-- hysteresis of the cell classes (R81) -/
  cellHyst : Int
  /-- open-wire threshold, raw code (R73) -/
  openWire : Int
  /-- balance window, mV (R92) -/
  window : Int
  /-- balance temperature limit (R91) -/
  balanceTemp : Int
  /-- maximum bleed count (R92) -/
  maxBleed : Nat
  /-- rated current, A (R98) -/
  rated : Nat
  riseStep : Nat
  degradedCap : Nat
  defaultProfile : Nat
  /-- share, percent (R110) -/
  share : Nat
  pcsMax : Nat
  /-- match window, mV (R119) -/
  matchWindow : Int
  /-- zone base temperature Tb, step Ts and hysteresis h (R131) -/
  zoneBase : Int
  zoneStep : Int
  zoneHyst : Int
  /-- plant stage count and shed level (R138) -/
  stageCount : Nat
  shedLevel : Nat
  /-- reconnect delay, s (R168) -/
  reconnectDelay : Nat
  /-- countdown length, s (R160) -/
  countdown : Nat
  /-- lines FL0 to FL5 (R151) -/
  lines : List LineCfg
  /-- profiles 0 to 3 (R98) -/
  profiles : List Profile
  deriving DecidableEq, Repr

end Sys2Proof
end

