-- ==== Sys2Proof/Machine/State.lean ====
section
/-! DEFINITION. The state of one station as plain data, its reset value, and the stop reasons (none is ever used: no command of this
part stops the machine). INVENTORY.md gives the rule and the reset value of each field. Timers count µs of the station's own time
base (R2) since their start; `none` is "not running". -/

namespace Sys2Proof.Machine

/-- Reasons a step could stop with a fault. There is none: the part has no exception, and every command has an effect in every
state (the part's own faults, link FAULT and BREAKER_FAULT among them, are state). Nothing raises it; safe. -/
inductive Fault where
  deriving DecidableEq, Repr

/-- Reasons a command could be refused. -/
inductive Refusal where
  /-- raised by `exec` alone, for a command that has no meaning yet (no arm uses it); safe -/
  | notModelled (mnemonic : String)
  deriving DecidableEq, Repr

/-! ### Names -/

/-- Fire stages, in their order (00_scope, Conventions). -/
inductive FireStage where
  | normal | preAlarm | alarm | releasePending | released
  deriving DecidableEq, Repr

/-- Plant roles (00_scope). -/
inductive Role where
  | plant | grid | supp
  deriving DecidableEq, Repr

/-- Link states (R9, R11, R12). -/
inductive LinkState where
  | listening | active | fault
  deriving DecidableEq, Repr

/-- Reason of link FAULT (R12). -/
inductive FaultReason where
  | driveFault | addressClash
  deriving DecidableEq, Repr

/-- Frame phases (R5); `none` before the first frame arrival (R14). -/
inductive Phase where
  | none | sync | fields | slot | idle | void
  deriving DecidableEq, Repr

/-- Notice priorities, most urgent first (3.1). -/
inductive Priority where
  | safety | control | data | bulk
  deriving DecidableEq, Repr

/-- The catalogue of notice kinds (3.5). -/
inductive Kind where
  | rackJoin | rackLeave | closeRequest | openRequest | lockoutClear | alarmReset | profileSelect | balanceSet
  | statusRead | snapshotRead | status | snapshotSegment | result | deadBusClaim | roleClaim | fireReport | tripReport
  deriving DecidableEq, Repr

/-- The block that queued a notice (R51). A DEAD_BUS_CLAIM carries the number CONT gave it (R122). -/
inductive Owner where
  | link | cont (claim : Nat) | fire | grid | cfg
  deriving DecidableEq, Repr

/-- Standing of an outbound notice in the slot now running (R42, R43, R53): not the candidate; the candidate in arbitration; the same with
a withdrawal that takes effect at the end of slot bit 6 if it has lost; the candidate after it has lost. -/
inductive Mark where
  | waiting | contending | withdrawn | lost
  deriving DecidableEq, Repr

/-- Fault state of a temperature channel (4.4); `unformed` before the first completion. -/
inductive TempState where
  | unformed | good | held | expired
  deriving DecidableEq, Repr

/-- Classes of a cell-group channel (R81). -/
inductive CellClass where
  | normal | lowWarn | highWarn | lowTrip | highTrip | openWire
  deriving DecidableEq, Repr

/-- Side of a candidate class (5.2). -/
inductive Side where
  | none | low | high
  deriving DecidableEq, Repr

/-- Contactor states (R115). -/
inductive ContState where
  | rackOpen | waitMatch | claiming | closing | closed | opening | welded | lockout
  deriving DecidableEq, Repr

/-- Bands of a fire line sample (R149). -/
inductive Band where
  | normal | active | openLoop | short
  deriving DecidableEq, Repr

/-- Breaker states (R174). -/
inductive BreakerState where
  | brkOpen | reconnectWait | closing | closed | tripping | breakerFault | recloseLockout
  deriving DecidableEq, Repr

/-- Causes of a trip (R178, R183). -/
inductive TripCause where
  | gridLoss | permitLoss | fire | openRequest | auxMismatch | restart
  deriving DecidableEq, Repr

/-! ### Records of the blocks -/

/-- One value per plant role. -/
structure RoleFlags where
  plant : Bool
  grid : Bool
  supp : Bool
  deriving DecidableEq, Repr

/-- One recorded rival per plant role (R193). -/
structure Rivals where
  plant : Option Nat
  grid : Option Nat
  supp : Option Nat
  deriving DecidableEq, Repr

/-- CFG (chapter 11). `reclaim` holds the roles of dropped ROLE_CLAIMs that are still to be handed over again, first dropped first
(R192). -/
structure Cfg where
  address : BitVec 5
  straps : RoleFlags
  image : List Byte
  loaded : Option Config
  valid : Bool
  yielded : RoleFlags
  roleYielded : Bool
  rivals : Rivals
  reclaim : List Role
  deriving DecidableEq, Repr

/-- Ticks and the ALERT output (R18, R196). -/
structure Indicator where
  tickTime : Nat
  ticks : Nat
  uptimeDue : Bool
  alert : Bool
  deriving DecidableEq, Repr

/-- The readings of one frame's field area (12.1). For the single-bit fields `true` is recessive (1); the sets hold the addresses
read dominant. -/
structure FieldReadings where
  presence : AddrSet
  closed : AddrSet
  permit : Bool
  hold : Bool
  gridPres : Bool
  degraded : Bool
  fire : Nat
  chg : Nat
  dis : Nat
  demand : Nat
  deriving DecidableEq, Repr

/-- A notice in the outbound queue (R51). -/
structure OutNotice where
  priority : Priority
  dest : Nat
  kind : Kind
  payload : List Byte
  owner : Owner
  mark : Mark
  deriving DecidableEq, Repr

/-- What the end of slot bit 6 has settled (R43, R44): the samples of slot bits 0 to 6, and the own notice that has won and left the
outbound queue. -/
structure Arbitration where
  seen : List Bool
  sent : Option OutNotice
  deriving DecidableEq, Repr

/-- LINK's lines, timers and frame (chapter 1). `echoWait` says that the latest own pulse met a high line and has not been recognized as
a fall (R14); `lateMute` that the latest own pulse of the frame met LSYNC already low, `mutePulse` that an earlier one of the frame did
(R13). `fixed` holds the contributions to the field area in progress whose bits have begun, each as it stood at its own start (R5, R19);
`slotRoom` says, for a notice of LENGTH 0, 1, …, whether the inbound queue had room at the start of its ACK bit, as far as these bits have
begun (R47). `arb` is the arbitration of the slot now running, once its slot bit 6 has ended. -/
structure Link where
  state : LinkState
  faultReason : Option FaultReason
  phase : Phase
  lsyncLow : Bool
  lsyncDriven : Bool
  pulse : Option Nat
  silence : Option Nat
  frameTimer : Option Nat
  frameTime : Option Nat
  lowTime : Option Nat
  missTimer : Option Nat
  lineStuck : Bool
  missTaken : Bool
  frameCounter : BitVec 32
  driveFaults : Nat
  droveDominant : Bool
  frameFaulted : Bool
  unechoed : Bool
  echoWait : Bool
  mutePulse : Bool
  lateMute : Bool
  fixed : List (Nat × Option Nat)
  fields : Option FieldReadings
  slotRoom : List Bool
  arb : Option Arbitration
  slotWon : Bool
  fieldDrive : List Bool
  slotDrive : List Bool
  deriving DecidableEq, Repr

/-- Previous readings kept for the filters (R31) with the counter value of their hand-over (R17). `true` is dominant. -/
structure PrevReadings where
  stage : FireStage
  gridPres : Bool
  degraded : Bool
  counter : BitVec 32
  deriving DecidableEq, Repr

/-- The received-field record (2.3). `permit` and `hold` are the wire's 0 (false) or 1 (true). -/
structure Rcv where
  presence : AddrSet
  closed : AddrSet
  permit : Bool
  hold : Bool
  chg : Nat
  dis : Nat
  demand : Nat
  stage : FireStage
  source : Nat
  gridPres : Bool
  degraded : Bool
  prev : Option PrevReadings
  deriving DecidableEq, Repr

/-- The membership monitor (2.4): counts by address, and STRANGER. -/
structure Monitor where
  present : List Nat
  absent : List Nat
  stranger : Bool
  deriving DecidableEq, Repr

/-- A notice in the inbound queue, with all its parts as sampled (R54). -/
structure InNotice where
  priority : Nat
  source : Nat
  dest : Nat
  kind : Nat
  payload : List Byte
  check : Nat
  deriving DecidableEq, Repr

/-- A snapshot readout in READING (3.7). -/
structure Readout where
  requester : Nat
  next : Nat
  deriving DecidableEq, Repr

/-- LINK's queues and flags (chapter 3). -/
structure Mail where
  outbound : List OutNotice
  inbound : List InNotice
  holdOff : Nat
  readout : Option Readout
  noticeUndelivered : Bool
  outboundDropped : Bool
  inboundOverrun : Bool
  deriving DecidableEq, Repr

/-- A scan in progress (R66): time since scan start, channels in use converted so far, raw codes by channel (R68). -/
structure Scan where
  time : Nat
  done : Nat
  raws : List Int
  deriving DecidableEq, Repr

/-- A temperature channel's sensor-fault items (4.4). -/
structure TempChan where
  faultCount : Nat
  lastGood : Option Int
  state : TempState
  deriving DecidableEq, Repr

/-- The rack summary (R75). -/
structure Summary where
  vmin : Int
  vmax : Int
  vsum : Int
  tmin : Int
  tmax : Int
  expired : Nat
  current : Int
  vbus : Int
  valid : Bool
  deriving DecidableEq, Repr

/-- A snapshot page (4.7). -/
structure Page where
  values : List Int
  number : BitVec 16
  deriving DecidableEq, Repr

/-- The result set of the latest completion (R74): the 26 values and the open-wire marks of CV0 to CV15. -/
structure ResultSet where
  values : List Int
  openMarks : List Bool
  deriving DecidableEq, Repr

/-- MEAS (chapter 4). `readOne` says that page 1 is the read page and page 0 the write page. -/
structure Meas where
  scanTimer : Option Nat
  scan : Option Scan
  temps : List TempChan
  sensorFault : Bool
  summary : Summary
  result : ResultSet
  page0 : Page
  page1 : Page
  readOne : Bool
  pageHold : Bool
  scanNumber : BitVec 16
  deriving DecidableEq, Repr

/-- A cell-group channel's items (5.2). -/
structure CellChan where
  cls : CellClass
  warnRun : Nat
  tripRun : Nat
  openRun : Nat
  exitCount : Nat
  lastSide : Side
  deriving DecidableEq, Repr

/-- CELL (chapter 5). `bleed` is the bleed set and the drivers BLD0 to BLD15. -/
structure Cell where
  chans : List CellChan
  overCount : Nat
  overcurrent : Bool
  balanceEnable : Bool
  bleed : List Bool
  deriving DecidableEq, Repr

/-- A charge and a discharge value. -/
structure Pair where
  chg : Nat
  dis : Nat
  deriving DecidableEq, Repr

/-- ALW (chapter 6). -/
structure Alw where
  active : Nat
  pendingProfile : Option Nat
  computed : Pair
  published : Pair
  limits : Pair
  duties : Pair
  deriving DecidableEq, Repr

/-- CONT (chapter 7). `auxAge` is the time since the filtered level of CONT_AUX was taken (R116); `closeExpired` says that the close timer
expired at this very instant and the rack has gone on from OPENING (R123). -/
structure Cont where
  state : ContState
  joinRequested : Bool
  closeTimer : Option Nat
  openTimer : Option Nat
  matchCount : Nat
  claimSeen : Option Nat
  claim : Nat
  auxClosed : Bool
  auxAge : Nat
  closeExpired : Bool
  isolateLevel : Bool
  isolateRead : Bool
  holdTicks : Option Nat
  lockout : Bool
  closeFail : Bool
  welded : Bool
  deriving DecidableEq, Repr

/-- THERM (8.1). -/
structure Therm where
  base : Nat
  published : Nat
  override : Bool
  fan : Nat
  damper : Bool
  deriving DecidableEq, Repr

/-- One chiller stage (R140). `onDone` and `offDone` say that the limit of that timer has been taken. -/
structure PlantStage where
  running : Bool
  onTime : Option Nat
  onDone : Bool
  offTime : Nat
  offDone : Bool
  deriving DecidableEq, Repr

/-- PLANT (8.2). `staggerDone` says that the limit of the stagger timer has been taken (R140). -/
structure Plant where
  stages : List PlantStage
  stagger : Option Nat
  staggerDone : Bool
  fadamp : Bool
  chFaults : Nat
  deriving DecidableEq, Repr

/-- One fire line (R150, R152, R153). -/
structure FireLine where
  filtered : Band
  prev : Option Band
  latch : Bool
  lineFault : Bool
  deriving DecidableEq, Repr

/-- FIRE (9.1, 9.2). `holdDrive` true is dominant. -/
structure Fire where
  lines : List FireLine
  holdDrive : Bool
  localStage : FireStage
  deriving DecidableEq, Repr

/-- SUPP (9.3) without the released latch. `remaining` in µs; REL_OUT is active while `relPulse` runs. -/
structure Supp where
  releasePending : Bool
  remaining : Nat
  held : Bool
  relPulse : Option Nat
  watch : Option Nat
  releaseFault : Bool
  deriving DecidableEq, Repr

/-- GRID (chapter 10) without the retained domain. The ages are the times since the filtered levels were taken (R169). -/
structure Grid where
  running : Bool
  state : BreakerState
  gridOk : Bool
  gridOkAge : Nat
  brkAux : Bool
  brkAuxAge : Nat
  pcsReady : Bool
  pcsReadyAge : Nat
  closeRequested : Bool
  reconnect : Option Nat
  permitCount : Nat
  presentCount : Nat
  closePulse : Option Nat
  closeTimer : Option Nat
  tripTimer : Option Nat
  tripCause : Option TripCause
  deriving DecidableEq, Repr

/-- A trip record (R183). -/
structure TripRecord where
  cause : TripCause
  uptime : BitVec 32
  acknowledged : Bool
  deriving DecidableEq, Repr

/-- The retained domain (R191). -/
structure Retained where
  records : List TripRecord
  uptime : BitVec 32
  releasedLatch : Bool
  deriving DecidableEq, Repr

/-- The station. -/
structure State where
  powered : Bool
  cfg : Cfg
  indicator : Indicator
  link : Link
  rcv : Rcv
  monitor : Monitor
  mail : Mail
  meas : Meas
  cell : Cell
  alw : Alw
  cont : Cont
  therm : Therm
  plant : Plant
  fire : Fire
  supp : Supp
  grid : Grid
  retained : Retained
  pending : List Instr
  deriving DecidableEq, Repr

/-! ### One setter per block (their lemmas stand in Sys2Proof/Laws/State.lean) -/

/-- The state with `cfg` replaced. -/
def State.setCfg (s : State) (x : Cfg) : State := { s with cfg := x }
/-- The state with `indicator` replaced. -/
def State.setIndicator (s : State) (x : Indicator) : State := { s with indicator := x }
/-- The state with `link` replaced. -/
def State.setLink (s : State) (x : Link) : State := { s with link := x }
/-- The state with `rcv` replaced. -/
def State.setRcv (s : State) (x : Rcv) : State := { s with rcv := x }
/-- The state with `monitor` replaced. -/
def State.setMonitor (s : State) (x : Monitor) : State := { s with monitor := x }
/-- The state with `mail` replaced. -/
def State.setMail (s : State) (x : Mail) : State := { s with mail := x }
/-- The state with `meas` replaced. -/
def State.setMeas (s : State) (x : Meas) : State := { s with meas := x }
/-- The state with `cell` replaced. -/
def State.setCell (s : State) (x : Cell) : State := { s with cell := x }
/-- The state with `alw` replaced. -/
def State.setAlw (s : State) (x : Alw) : State := { s with alw := x }
/-- The state with `cont` replaced. -/
def State.setCont (s : State) (x : Cont) : State := { s with cont := x }
/-- The state with `therm` replaced. -/
def State.setTherm (s : State) (x : Therm) : State := { s with therm := x }
/-- The state with `plant` replaced. -/
def State.setPlant (s : State) (x : Plant) : State := { s with plant := x }
/-- The state with `fire` replaced. -/
def State.setFire (s : State) (x : Fire) : State := { s with fire := x }
/-- The state with `supp` replaced. -/
def State.setSupp (s : State) (x : Supp) : State := { s with supp := x }
/-- The state with `grid` replaced. -/
def State.setGrid (s : State) (x : Grid) : State := { s with grid := x }
/-- The state with `retained` replaced. -/
def State.setRetained (s : State) (x : Retained) : State := { s with retained := x }
/-- The state with its queue of waiting commands replaced. -/
def State.setPending (s : State) (x : List Instr) : State := { s with pending := x }

/-! ### Reset -/

/-- The station right after a power-on reset with every strap 0 and every pin quiet (log 3): 1.8, 2.5, 3.8, 4.7, 5.5, 6.4, R130,
R137, R148, R167, R186, R187, R191. -/
def State.reset : State where
  powered := true
  cfg := { address := 0, straps := ⟨false, false, false⟩, image := [], loaded := none, valid := false,
           yielded := ⟨false, false, false⟩, roleYielded := false, rivals := ⟨none, none, none⟩,
           reclaim := [] }
  indicator := { tickTime := 0, ticks := 0, uptimeDue := false, alert := false }
  link := { state := .listening, faultReason := none, phase := .none, lsyncLow := false, lsyncDriven := false, pulse := none,
            silence := some 0, frameTimer := none, frameTime := none, lowTime := none, missTimer := none, lineStuck := false,
            missTaken := false, frameCounter := 0, driveFaults := 0, droveDominant := false, frameFaulted := false,
            unechoed := false, echoWait := false, mutePulse := false, lateMute := false, fixed := [], fields := none,
            slotRoom := [], arb := none, slotWon := false, fieldDrive := [], slotDrive := [] }
  rcv := { presence := 0, closed := 0, permit := false, hold := false, chg := 255, dis := 255, demand := 15, stage := .normal,
           source := 31, gridPres := false, degraded := false, prev := none }
  monitor := { present := List.replicate 32 0, absent := List.replicate 32 100, stranger := false }
  mail := { outbound := [], inbound := [], holdOff := 2, readout := none, noticeUndelivered := false, outboundDropped := false,
            inboundOverrun := false }
  meas := { scanTimer := none, scan := none, temps := List.replicate 8 ⟨0, none, .unformed⟩, sensorFault := false,
            summary := ⟨0, 0, 0, -400, 1250, 0, 0, 0, false⟩,
            result := ⟨List.replicate 26 0, List.replicate 16 false⟩,
            page0 := ⟨List.replicate 26 0, 0⟩, page1 := ⟨List.replicate 26 0, 0⟩, readOne := true, pageHold := false,
            scanNumber := 0 }
  cell := { chans := List.replicate 16 ⟨.normal, 0, 0, 0, 0, .none⟩, overCount := 0, overcurrent := false,
            balanceEnable := false, bleed := List.replicate 16 false }
  alw := { active := 0, pendingProfile := none, computed := ⟨0, 0⟩, published := ⟨0, 0⟩, limits := ⟨0, 0⟩, duties := ⟨0, 0⟩ }
  cont := { state := .rackOpen, joinRequested := false, closeTimer := none, openTimer := none, matchCount := 0, claimSeen := none,
            claim := 0, auxClosed := false, auxAge := 0, closeExpired := false, isolateLevel := false, isolateRead := false,
            holdTicks := none, lockout := false, closeFail := false, welded := false }
  therm := { base := 0, published := 0, override := false, fan := 0, damper := false }
  plant := { stages := List.replicate 4 ⟨false, none, false, 0, false⟩, stagger := none, staggerDone := false, fadamp := false, chFaults := 0 }
  fire := { lines := List.replicate 6 ⟨.normal, none, false, false⟩, holdDrive := false, localStage := .normal }
  supp := { releasePending := false, remaining := 0, held := false, relPulse := none, watch := none, releaseFault := false }
  grid := { running := false, state := .brkOpen, gridOk := false, gridOkAge := 0, brkAux := false, brkAuxAge := 0,
            pcsReady := false, pcsReadyAge := 0, closeRequested := false, reconnect := none, permitCount := 0, presentCount := 0,
            closePulse := none, closeTimer := none, tripTimer := none,
            tripCause := none }
  retained := { records := [], uptime := 0, releasedLatch := false }
  pending := []

end Sys2Proof.Machine
end

