-- ==== Sys2Proof/Machine/Image.lean ====
section
/-! DEFINITION. The configuration image: reading it (12.4), its CRC-16 (R198), its checks (R189) and the built-in set (R190). -/

namespace Sys2Proof.Machine

/-! ### Bits and bytes -/

/-- `v` as `w` bits, most significant first (chapter 12). -/
def bitsOf : Nat → Nat → List Bool
  | 0, _ => []
  | w + 1, v => v.testBit w :: bitsOf w v

/-- The number a list of bits spells, most significant first. -/
def bitsVal (bs : List Bool) : Nat := bs.foldl (fun n b => 2 * n + b.toNat) 0

/-- A 16-bit number read as two's complement (chapter 12). -/
def signed16 (n : Nat) : Int := if n < 32768 then (n : Int) else (n : Int) - 65536

/-- A value stored as a 16-bit two's complement word (R62, chapter 12). -/
def word16 (v : Int) : Nat := (v % 65536).toNat

/-- A 16-bit word as two bytes, most significant byte first. -/
def bytes16 (n : Nat) : List Byte := [BitVec.ofNat 8 (n / 256), BitVec.ofNat 8 n]

/-- A 32-bit word as four bytes, most significant byte first. -/
def bytes32 (n : Nat) : List Byte :=
  [BitVec.ofNat 8 (n / 16777216), BitVec.ofNat 8 (n / 65536), BitVec.ofNat 8 (n / 256), BitVec.ofNat 8 n]

/-- One bit of a CRC of width `w` with generator `poly`: feedback is the top bit XOR the bit; shift left; XOR when 1 (R197, R198). -/
def crcBit {w : Nat} (poly : BitVec w) (reg : BitVec w) (b : Bool) : BitVec w :=
  if reg.msb != b then (reg <<< 1) ^^^ poly else reg <<< 1

/-- CRC of a bit sequence from a start value, with no final inversion. -/
def crcBits {w : Nat} (poly start : BitVec w) (bs : List Bool) : BitVec w := bs.foldl (crcBit poly) start

/-- The CRC-8 of a notice's bits (R197). -/
def crc8 (bs : List Bool) : BitVec 8 := crcBits 0x1D#8 0xFF#8 bs

/-- The CRC-16 of bytes, each most significant bit first (R198). -/
def crc16 (bytes : List Byte) : BitVec 16 := crcBits 0x1021#16 0xFFFF#16 (bytes.flatMap fun b => bitsOf 8 b.toNat)

/-! ### Reading the image (12.4) -/

/-- The 512 bytes as read: a byte that the memory does not answer reads FFh (R188). -/
def readImage (memory : List Byte) : List Byte := (List.range 512).map fun i => memory.getD i 0xFF#8

def byteAt (img : List Byte) (i : Nat) : Nat := (img.getD i 0xFF#8).toNat
def wordAt (img : List Byte) (i : Nat) : Nat := byteAt img i * 256 + byteAt img (i + 1)
def signedAt (img : List Byte) (i : Nat) : Int := signed16 (wordAt img i)

/-- Line type of a coded byte; a code outside the table fails check 3 of R189 and is never used. -/
def lineTypeOf : Nat → LineType
  | 0 => .smoke | 1 => .heat | 2 => .gas | 3 => .callpoint | 4 => .hold | 5 => .door | _ => .unused

/-- One breakpoint: T (2 bytes, signed) then percent (1 byte). -/
def breakpointAt (img : List Byte) (i : Nat) : Breakpoint := ⟨signedAt img i, byteAt img (i + 2)⟩

/-- A table of six breakpoints. -/
def tableAt (img : List Byte) (i : Nat) : List Breakpoint := (List.range 6).map fun k => breakpointAt img (i + 3 * k)

/-- Profile `p`, 44 bytes from 176 + 44 × p. -/
def profileAt (img : List Byte) (p : Nat) : Profile :=
  let b := 176 + 44 * p
  { charge := tableAt img b, discharge := tableAt img (b + 18),
    chargeKnee := wordAt img (b + 36), chargeCeiling := wordAt img (b + 38),
    dischargeFloor := wordAt img (b + 40), dischargeKnee := wordAt img (b + 42) }

/-- The commander entries that are not FFh. -/
def commandersAt (img : List Byte) : List Nat := ((List.range 4).map fun k => byteAt img (5 + k)).filter (· != 255)

/-- The settings an image holds (12.4). -/
def parseImage (img : List Byte) : Config where
  members := BitVec.ofNat 32 (wordAt img 1 * 65536 + wordAt img 3)
  commanders := commandersAt img
  cellCount := byteAt img 9
  tempSet := BitVec.ofNat 8 (byteAt img 10)
  balanceDefault := byteAt img 11 == 1
  calib := (List.range 26).map fun c => ⟨wordAt img (12 + 4 * c), signedAt img (14 + 4 * c)⟩
  lowTrip := wordAt img 116
  lowWarn := wordAt img 118
  highWarn := wordAt img 120
  highTrip := wordAt img 122
  cellHyst := byteAt img 124
  openWire := wordAt img 125
  window := byteAt img 127
  balanceTemp := wordAt img 128
  maxBleed := byteAt img 130
  rated := byteAt img 131
  riseStep := byteAt img 132
  degradedCap := byteAt img 133
  defaultProfile := byteAt img 134
  share := byteAt img 135
  pcsMax := wordAt img 136
  matchWindow := wordAt img 138
  zoneBase := signedAt img 140
  zoneStep := byteAt img 142
  zoneHyst := byteAt img 143
  stageCount := byteAt img 144
  shedLevel := byteAt img 145
  reconnectDelay := wordAt img 146
  countdown := byteAt img 148
  lines := (List.range 6).map fun k =>
    ⟨lineTypeOf (byteAt img (149 + k)), if byteAt img (155 + k) == 1 then .edge else .level⟩
  profiles := (List.range 4).map (profileAt img)

/-! ### The checks (R189) -/

/-- `lo ≤ v ≤ hi`. -/
def within (lo v hi : Int) : Bool := decide (lo ≤ v) && decide (v ≤ hi)

/-- Six breakpoints, T in −400 to 1250 and strictly increasing, p in 0 to 100 (R98). -/
def tableOk (t : List Breakpoint) : Bool :=
  t.all (fun b => within (-400) b.temp 1250 && within 0 b.percent 100)
    && (t.zip (t.drop 1)).all (fun p => decide (p.1.temp < p.2.temp))

/-- The conditions on a profile (R98). -/
def profileOk (p : Profile) : Bool :=
  tableOk p.charge && tableOk p.discharge
    && within 0 p.chargeKnee 5000 && within 0 p.chargeCeiling 5000 && decide (p.chargeKnee < p.chargeCeiling)
    && within 0 p.dischargeFloor 5000 && within 0 p.dischargeKnee 5000 && decide (p.dischargeFloor < p.dischargeKnee)

/-- Membership list: 1 to 31 addresses, each 0 to 30, the own address among them; not applied with STRAP_INVALID (R36, R187). At address 31
the whole check is passed over, so that a list with weight 2^31 set is valid there too, and address 31, the station's own, is none of the
members that member missing and peer loss are read over (DESIGN CHOICE, log 35: R187 does not say it of such a list). -/
def membersOk (own : Nat) (c : Config) : Bool :=
  own == 31 || (c.members.getLsbD own && !c.members.getLsbD 31)

/-- The ranges and the conditions between settings of R189's table (checks 3 and 4). -/
def settingsOk (own : Nat) (c : Config) : Bool :=
  membersOk own c
    && !c.commanders.isEmpty && c.commanders.all (fun a => decide (a ≤ 30))
    && within 8 c.cellCount 16 && c.tempSet != 0
    && c.calib.all (fun k => within 0 k.gain 32767 && within (-512) k.offset 511)
    && within 0 c.lowTrip 5000 && within 0 c.lowWarn 5000 && within 0 c.highWarn 5000 && within 0 c.highTrip 5000
    && within 0 c.cellHyst 200
    && decide (c.lowTrip < c.lowWarn) && decide (c.lowWarn < c.highWarn) && decide (c.highWarn < c.highTrip)
    && decide (c.highWarn - c.lowWarn > 2 * c.cellHyst)
    && within 1 c.window 200 && within 0 c.balanceTemp 1000 && within 1 c.maxBleed 8
    && within 1 c.rated 254 && within 1 c.riseStep 32 && within 0 c.degradedCap 100 && within 0 c.defaultProfile 3
    && c.profiles.all profileOk
    && within 50 c.share 100 && within 1 c.pcsMax 4000
    && within 500 c.matchWindow 10000
    && within (-200) c.zoneBase 800 && within 5 c.zoneStep 100 && within 0 c.zoneHyst 50
    && within 1 c.stageCount 4 && within 0 c.shedLevel 4 && decide (c.shedLevel ≤ c.stageCount)
    && within 30 c.reconnectDelay 900 && within 10 c.countdown 60

/-- Settings with a fixed set of coded values hold one of them: balance-enable default, line types, line modes (12.4, check 3). -/
def codesOk (img : List Byte) : Bool :=
  decide (byteAt img 11 ≤ 1)
    && (List.range 6).all fun k => decide (byteAt img (149 + k) ≤ 6) && decide (byteAt img (155 + k) ≤ 1)

/-- The four checks of R189, at a station with own address `own`. -/
def imageValid (own : Nat) (img : List Byte) : Bool :=
  crc16 (img.take 510) == BitVec.ofNat 16 (wordAt img 510)
    && byteAt img 0 == 1 && codesOk img && settingsOk own (parseImage img)

/-! ### The built-in set (R190) -/

/-- A profile of the built-in set. Its content has no effect on any published value (R98, R104). -/
def builtInProfile : Profile := ⟨List.replicate 6 ⟨0, 0⟩, List.replicate 6 ⟨0, 0⟩, 0, 0, 0, 0⟩

/-- The set that stands in for an invalid image. The membership list is the own address alone; empty at address 31 (R187). -/
def builtIn (own : Nat) : Config where
  members := if own = 31 then 0 else BitVec.ofNat 32 (2 ^ own)
  commanders := [0]
  cellCount := 16
  tempSet := 0xFF#8
  balanceDefault := false
  calib := List.replicate 26 ⟨16384, 0⟩
  lowTrip := 2800
  lowWarn := 2950
  highWarn := 3550
  highTrip := 3650
  cellHyst := 50
  openWire := 2000
  window := 15
  balanceTemp := 450
  maxBleed := 4
  rated := 1
  riseStep := 4
  degradedCap := 50
  defaultProfile := 0
  share := 90
  pcsMax := 1
  matchWindow := 2000
  zoneBase := 250
  zoneStep := 20
  zoneHyst := 10
  stageCount := 1
  shedLevel := 1
  reconnectDelay := 300
  countdown := 30
  lines := List.replicate 6 ⟨.smoke, .level⟩
  profiles := List.replicate 4 builtInProfile

end Sys2Proof.Machine
end

