-- ==== Sys2Proof/Machine/Ops.lean ====
section
/-! DEFINITION. The named operations the meanings share: time, views of the station (settings, roles, stages), LINK's outbound queue,
the snapshot pages, and the passing of time. -/

namespace Sys2Proof.Machine

/-! ### Time limits, in µs -/

def silenceLimit : Nat := 30000
/-- R7: 10.000 ms + 4 µs × own address. -/
def framePeriod (own : Nat) : Nat := 10000 + 4 * own
/-- R116, R169: filter times of CONT_AUX, GRID_OK, BRK_AUX and PCS_READY. -/
def auxFilter : Nat := 5000
def gridOkFilter : Nat := 2000
def brkAuxFilter : Nat := 5000
def pcsReadyFilter : Nat := 5000
/-- R3: a fall is recognized when LSYNC has been low for 2 µs. -/
def recognition : Nat := 2
def pulseLength : Nat := 40
def syncEnd : Nat := 48
def fieldsEnd : Nat := 944
def bitTime : Nat := 8
def lineStuckLimit : Nat := 1000
def missingFrameLimit : Nat := 10000
def tickPeriod : Nat := 10000
def scanPeriod : Nat := 100000
def scanSettle : Nat := 2000
def conversionTime : Nat := 500
def closeLimit : Nat := 100000
def openLimit : Nat := 100000
def claimSeenLimit : Nat := 1000000
/-- R127: the 400th tick after the first read. -/
def holdLimit : Nat := 400
def closePulseLimit : Nat := 200000
def gridCloseLimit : Nat := 500000
def tripLimit : Nat := 200000
def releasePulseLimit : Nat := 1000000
def watchLimit : Nat := 10000000
def staggerLimit : Nat := 30000000
def stageOnLimit : Nat := 180000000
def stageOffLimit : Nat := 300000000
/-- One second in µs. -/
def second : Nat := 1000000

/-- A running timer advanced by `d`; a timer that does not run stays so. -/
def adv (d : Nat) (t : Option Nat) : Option Nat := t.map (· + d)

/-- A timer runs and shows at least `limit`. -/
def reached (limit : Nat) (t : Option Nat) : Bool :=
  match t with
  | some e => decide (limit ≤ e)
  | none => false

def Link.elapse (d : Nat) (l : Link) : Link :=
  { l with pulse := adv d l.pulse, silence := adv d l.silence, frameTimer := adv d l.frameTimer, frameTime := adv d l.frameTime,
           lowTime := adv d l.lowTime, missTimer := adv d l.missTimer }

def Meas.elapse (d : Nat) (m : Meas) : Meas :=
  { m with scanTimer := adv d m.scanTimer, scan := m.scan.map fun c => { c with time := c.time + d } }

/-- The instant of a failed close (R123) ends as soon as time passes. -/
def Cont.elapse (d : Nat) (c : Cont) : Cont :=
  { c with closeTimer := adv d c.closeTimer, openTimer := adv d c.openTimer, claimSeen := adv d c.claimSeen
           auxAge := c.auxAge + d, closeExpired := c.closeExpired && d == 0 }

/-- R140: the timers of the plant run in every link state. -/
def Plant.elapse (d : Nat) (p : Plant) : Plant :=
  { p with stages := p.stages.map fun g => { g with onTime := adv d g.onTime, offTime := g.offTime + d },
           stagger := adv d p.stagger }

/-- R162: the remaining time runs down while the held flag is clear. -/
def Supp.elapse (d : Nat) (p : Supp) : Supp :=
  { p with remaining := if p.releasePending && !p.held then p.remaining - d else p.remaining,
           relPulse := adv d p.relPulse, watch := adv d p.watch }

def Grid.elapse (d : Nat) (g : Grid) : Grid :=
  { g with reconnect := adv d g.reconnect, closePulse := adv d g.closePulse, closeTimer := adv d g.closeTimer,
           tripTimer := adv d g.tripTimer, gridOkAge := g.gridOkAge + d, brkAuxAge := g.brkAuxAge + d
           pcsReadyAge := g.pcsReadyAge + d }

/-- The timers of the station after `d` µs of its own time base (R2): every running timer advances, nothing else changes. -/
def State.advance (d : Nat) (s : State) : State :=
  { s with indicator := { s.indicator with tickTime := s.indicator.tickTime + d }, link := s.link.elapse d, meas := s.meas.elapse d,
           cont := s.cont.elapse d, plant := s.plant.elapse d, supp := s.supp.elapse d, grid := s.grid.elapse d }

/-! ### Settings, address, roles (R187, R188, R190) -/

/-- Own address: the strapped address. -/
def State.own (s : State) : Nat := s.cfg.address.toNat

/-- The configuration in use; the built-in set stands before the read completes (log 7). -/
def State.config (s : State) : Config := s.cfg.loaded.getD (builtIn s.own)

/-- The configuration read is complete (R188). -/
def State.readDone (s : State) : Bool := s.cfg.loaded.isSome

/-- The configuration is valid, for any block that asks; not before the read completes (R188). -/
def State.configValid (s : State) : Bool := s.readDone && s.cfg.valid

/-- CONFIG_INVALID (R189). -/
def State.configInvalid (s : State) : Bool := s.readDone && !s.cfg.valid

/-- STRAP_INVALID (R187). -/
def State.strapInvalid (s : State) : Bool := s.own == 31

def RoleFlags.get (f : RoleFlags) : Role → Bool
  | .plant => f.plant
  | .grid => f.grid
  | .supp => f.supp

def RoleFlags.set (f : RoleFlags) (r : Role) (b : Bool) : RoleFlags :=
  match r with
  | .plant => { f with plant := b }
  | .grid => { f with grid := b }
  | .supp => { f with supp := b }

def Rivals.get (f : Rivals) : Role → Option Nat
  | .plant => f.plant
  | .grid => f.grid
  | .supp => f.supp

def Rivals.set (f : Rivals) (r : Role) (b : Option Nat) : Rivals :=
  match r with
  | .plant => { f with plant := b }
  | .grid => { f with grid := b }
  | .supp => { f with supp := b }

/-- The station holds a role, from the end of reset on: strapped, not yielded, and, for GRID and SUPP, not inhibited by a configuration
that has been read as invalid (11.4, R138, R160, R168). -/
def State.holds (s : State) (r : Role) : Bool :=
  s.cfg.straps.get r && !s.cfg.yielded.get r && (r == .plant || !s.configInvalid)

/-! ### Fire stages -/

def FireStage.rank : FireStage → Nat
  | .normal => 0 | .preAlarm => 1 | .alarm => 2 | .releasePending => 3 | .released => 4

/-- The higher of two stages (00_scope, Conventions). -/
def FireStage.max (a b : FireStage) : FireStage := if a.rank < b.rank then b else a

/-- "ALARM or higher". -/
def FireStage.isAlarm (a : FireStage) : Bool := decide (2 ≤ a.rank)

/-- The stage the station publishes in FIRE (R27, R160): RELEASED with the released latch; RELEASE_PENDING at the SUPP station while
a countdown runs or is held; otherwise the local stage. -/
def State.publishedStage (s : State) : FireStage :=
  if s.retained.releasedLatch then .released
  else if s.holds .supp && s.supp.releasePending then .releasePending
  else s.fire.localStage

/-- The suppression stage as other rules compare it: the published stage at the SUPP station, none elsewhere (R107, R117, R135). -/
def State.suppStage (s : State) : FireStage := if s.holds .supp then s.publishedStage else .normal

/-- The highest of the local stage, the filtered container stage and, at the SUPP station, the suppression stage (R107, R135). -/
def State.capStage (s : State) : FireStage := (s.fire.localStage.max s.rcv.stage).max s.suppStage

/-! ### Membership (R36, R38) -/

/-- The members other than the station itself. -/
def State.otherMembers (s : State) : List Nat :=
  (List.range 32).filter fun a => s.config.members.getLsbD a && a != s.own

/-- Member missing (R38). -/
def State.memberMissing (s : State) : Bool := s.otherMembers.any fun a => decide (s.monitor.present.getD a 0 < 3)

/-- Peer loss (R38). -/
def State.peerLoss (s : State) : Bool :=
  !s.otherMembers.isEmpty && s.otherMembers.all fun a => decide (100 ≤ s.monitor.absent.getD a 100)

/-! ### The catalogue (3.5, 12.2, 12.3) -/

def Priority.code : Priority → Nat
  | .safety => 0 | .control => 1 | .data => 2 | .bulk => 3

def Kind.code : Kind → Nat
  | .rackJoin => 1 | .rackLeave => 2 | .closeRequest => 3 | .openRequest => 4 | .lockoutClear => 5 | .alarmReset => 6
  | .profileSelect => 7 | .balanceSet => 8 | .statusRead => 9 | .snapshotRead => 10 | .status => 16 | .snapshotSegment => 17
  | .result => 18 | .deadBusClaim => 19 | .roleClaim => 20 | .fireReport => 21 | .tripReport => 22

/-- The kind of a KIND number; `none` is an unknown kind (12.2). -/
def Kind.ofCode : Nat → Option Kind
  | 1 => some .rackJoin | 2 => some .rackLeave | 3 => some .closeRequest | 4 => some .openRequest | 5 => some .lockoutClear
  | 6 => some .alarmReset | 7 => some .profileSelect | 8 => some .balanceSet | 9 => some .statusRead | 10 => some .snapshotRead
  | 16 => some .status | 17 => some .snapshotSegment | 18 => some .result | 19 => some .deadBusClaim | 20 => some .roleClaim
  | 21 => some .fireReport | 22 => some .tripReport | _ => none

/-- Payload bytes of a kind (3.5). -/
def Kind.length : Kind → Nat
  | .profileSelect | .balanceSet => 1
  | .result | .roleClaim => 2
  | .fireReport => 3
  | .tripReport => 5
  | .status | .snapshotSegment => 8
  | _ => 0

/-- Command kinds, subject to the commander check (3.5). -/
def Kind.isCommand : Kind → Bool
  | .status | .snapshotSegment | .result | .deadBusClaim | .roleClaim | .fireReport | .tripReport => false
  | _ => true

def Role.code : Role → Nat
  | .plant => 1 | .grid => 2 | .supp => 3

def TripCause.code : TripCause → Nat
  | .gridLoss => 1 | .permitLoss => 2 | .fire => 3 | .openRequest => 4 | .auxMismatch => 5 | .restart => 6

/-- Broadcast (12.2). -/
def broadcast : Nat := 31

/-! ### The outbound queue (R51 to R53) -/

/-- Room for 8 notices. -/
def outboundCapacity : Nat := 8
/-- Room for 4 notices. -/
def inboundCapacity : Nat := 4

/-- Places a notice after the last of its own priority and ahead of every less urgent one (R51). -/
def insertNotice (n : OutNotice) : List OutNotice → List OutNotice
  | [] => [n]
  | m :: ms => if n.priority.code < m.priority.code then n :: m :: ms else m :: insertNotice n ms

/-- The readout ends: IDLE, and the page hold is released (R63, R79). -/
def endReadout (s : State) : State :=
  (s.setMail { s.mail with readout := none }).setMeas { s.meas with pageHold := false }

/-- What the drop of a notice from the outbound queue does besides OUTBOUND_DROPPED (R52, R122, R192). -/
def dropEffect (n : OutNotice) (s : State) : State :=
  match n.kind, n.owner with
  | .snapshotSegment, _ => endReadout s
  | .deadBusClaim, .cont k =>
    if s.cont.state = .claiming ∧ s.cont.claim = k then s.setCont { s.cont with state := .rackOpen } else s
  | .roleClaim, _ =>
    let r : Role := match n.payload.headD 0 with
      | 1 => .plant
      | 2 => .grid
      | _ => .supp
    s.setCfg { s.cfg with reclaim := s.cfg.reclaim ++ [r] }
  | _, _ => s

/-- A block hands LINK a notice (R51, R52; in FAULT it is discarded, R12). In a full queue the notice of the least urgent priority
that entered last stands at the end; it gives way if it is less urgent than the new one and is not the candidate of the slot now
running, which it is to the slot's end, lost or not (R42); otherwise the new notice is discarded. So it is, a SAFETY notice too, where the
candidate stands last, behind more urgent notices that entered after slot bit 0 began and do not contend (DESIGN CHOICE, log 46: R52 both
discards the new notice then and says that a SAFETY notice finds a place). -/
def queueNotice (n : OutNotice) (s : State) : State :=
  if s.link.state = .fault then s
  else if s.mail.outbound.length < outboundCapacity then
    s.setMail { s.mail with outbound := insertNotice n s.mail.outbound }
  else
    match s.mail.outbound.getLast? with
    | some v =>
      if n.priority.code < v.priority.code ∧ v.mark = .waiting then
        dropEffect v
          (s.setMail { s.mail with outbound := insertNotice n s.mail.outbound.dropLast, outboundDropped := true })
      else dropEffect n (s.setMail { s.mail with outboundDropped := true })
    | none => s

/-- Removes the oldest unsent DEAD_BUS_CLAIM; the candidate is only marked before the end of slot bit 6, and removed after it (R53, log 40).
A claim whose withdrawal waits already is passed over, and a second withdrawal in that slot removes the next claim (DESIGN CHOICE, log 30:
R53 does not say which notice it names). -/
def withdrawFirst : List OutNotice → List OutNotice
  | [] => []
  | m :: ms =>
    if m.kind = .deadBusClaim then
      match m.mark with
      | .waiting | .lost => ms
      | .contending => { m with mark := .withdrawn } :: ms
      | .withdrawn => m :: withdrawFirst ms
    else m :: withdrawFirst ms

/-- CONT withdraws its DEAD_BUS_CLAIM (R53). -/
def withdrawClaim (s : State) : State := s.setMail { s.mail with outbound := withdrawFirst s.mail.outbound }

/-! ### Snapshot segments (R62) -/

/-- The page the readout reads. -/
def Meas.readPage (m : Meas) : Page := if m.readOne then m.page1 else m.page0

/-- The page scans write (R77). -/
def Meas.writePage (m : Meas) : Page := if m.readOne then m.page0 else m.page1

/-- The write page replaced; the read page stays. -/
def Meas.setWritePage (m : Meas) (p : Page) : Meas := if m.readOne then { m with page0 := p } else { m with page1 := p }

/-- Payload of segment `k`: its number, values 3k to 3k + 2 of the read page, low 8 bits of its scan number (R62, 12.3). -/
def segmentPayload (k : Nat) (p : Page) : List Byte :=
  BitVec.ofNat 8 k :: ((List.range 3).flatMap fun j => bytes16 (word16 (p.values.getD (3 * k + j) 0)))
    ++ [BitVec.ofNat 8 p.number.toNat]

/-- LINK queues segment `k` to the requester, with its values taken now (R61, R62). -/
def queueSegment (requester k : Nat) (s : State) : State :=
  queueNotice ⟨.bulk, requester, .snapshotSegment, segmentPayload k s.meas.readPage, .link, .waiting⟩
    (s.setMail { s.mail with readout := some ⟨requester, k⟩ })

/-- A refusal's RESULT: priority CONTROL, to the refused notice's source, with the kind answered and the reason (R57). -/
def queueResult (dest kind reason : Nat) (s : State) : State :=
  queueNotice ⟨.control, dest, .result, [BitVec.ofNat 8 kind, BitVec.ofNat 8 reason], .link, .waiting⟩ s

/-! ### Role claims (R192) and in-operation flags -/

/-- In-operation flag of a role (R192). -/
def State.inOperation (s : State) : Role → Bool
  | .plant => s.plant.stages.any (·.running)
  | .grid => s.grid.running && s.grid.state != .brkOpen
  | .supp => s.retained.releasedLatch || s.supp.releasePending

/-- CFG hands LINK a ROLE_CLAIM for a role with its in-operation flag as it stands (R192). -/
def queueRoleClaim (r : Role) (s : State) : State :=
  queueNotice ⟨.control, broadcast, .roleClaim, [BitVec.ofNat 8 r.code, BitVec.ofNat 8 (s.inOperation r).toNat], .cfg, .waiting⟩ s

/-- The dropped claims `rs`, first dropped first, while the outbound queue has room. -/
def reclaimRoles : List Role → State → State
  | [], s => s
  | r :: rs, s =>
    if s.mail.outbound.length < outboundCapacity then
      let s := s.setCfg { s.cfg with reclaim := rs }
      reclaimRoles rs (if s.holds r then queueRoleClaim r s else s)
    else s

/-- R192: each dropped ROLE_CLAIM is handed over again at the first hand-over at which the outbound queue has room for it. A claim for a
role yielded meanwhile is not. -/
def reclaimDropped (s : State) : State := reclaimRoles s.cfg.reclaim s

/-- R193: at a change of a role's in-operation flag from set to clear while a rival is recorded, CFG claims the role again. `before`
is the station as the command found it. -/
def rivalClaim (before : State) (r : Role) (s : State) : State :=
  if before.inOperation r && !s.inOperation r && s.holds r && (s.cfg.rivals.get r).isSome then queueRoleClaim r s else s

/-- The rival watch over the three roles, taken at the end of every command (R193). The ends of a command alone are compared: OPEN that
GRID passes through on its way to RECONNECT_WAIT within one command (R175) is no change of its flag (DESIGN CHOICE, log 34). So a rival claim enters the outbound
queue after every other notice that the same command queues (DESIGN CHOICE, log 44: R193 says only that it is handed over at the change). -/
def settle (before s : State) : State := rivalClaim before .supp (rivalClaim before .grid (rivalClaim before .plant s))

end Sys2Proof.Machine
end

