-- ==== Sys2Proof/Machine/Flags.lean ====
section
/-! DEFINITION. The conditions and flags the station forms from its state: cell classes, permit (R40), close conditions (R117), STATUS
(R60), ALERT (R195), the plant's and the breaker's conditions. -/

namespace Sys2Proof.Machine

/-! ### Cell classes (R81, R87) -/

def CellClass.severity : CellClass → Nat
  | .normal => 0 | .lowWarn | .highWarn => 1 | .lowTrip | .highTrip => 2 | .openWire => 3

/-- Order of the worst class and its code in STATUS (R87, 12.3). -/
def CellClass.code : CellClass → Nat
  | .normal => 0 | .lowWarn => 1 | .highWarn => 2 | .lowTrip => 3 | .highTrip => 4 | .openWire => 5

/-- A latched class: LOW_TRIP, HIGH_TRIP or OPEN_WIRE (R86). -/
def CellClass.latched (c : CellClass) : Bool := decide (2 ≤ c.severity)

def CellChan.initial : CellChan := ⟨.normal, 0, 0, 0, 0, .none⟩

/-- Classes of the cell-group channels in use (R82). -/
def State.classes (s : State) : List CellClass :=
  (List.range s.config.cellCount).map fun i => (s.cell.chans.getD i CellChan.initial).cls

/-- Some channel is in LOW_TRIP, HIGH_TRIP or OPEN_WIRE (R87). -/
def State.anyTrip (s : State) : Bool := s.classes.any (·.latched)

/-- Some channel is in LOW_WARN or HIGH_WARN. -/
def State.anyWarn (s : State) : Bool := s.classes.any fun c => c.severity == 1

/-- The worst class of the channels in use (R87). -/
def State.worstClass (s : State) : CellClass :=
  s.classes.foldl (fun w c => if w.code < c.code then c else w) .normal

/-! ### Contactor -/

def ContState.code : ContState → Nat
  | .rackOpen => 0 | .waitMatch => 1 | .claiming => 2 | .closing => 3 | .closed => 4 | .opening => 5 | .welded => 6 | .lockout => 7

/-- CONT_COIL is driven in CLOSING and CLOSED alone (R115). -/
def ContState.coil : ContState → Bool
  | .closing | .closed => true
  | _ => false

/-- The CLOSED bit is dominant in CLOSED and WELDED (R24, R115). -/
def ContState.closedBit : ContState → Bool
  | .closed | .welded => true
  | _ => false

/-- The station contributes to CHG and DIS in CLOSING, CLOSED and WELDED (R28). -/
def ContState.contributes : ContState → Bool
  | .closing | .closed | .welded => true
  | _ => false

/-- The close conditions (R117). -/
def State.closeConditions (s : State) : Bool :=
  s.cont.joinRequested && s.meas.summary.valid && !s.anyTrip
    && s.fire.localStage == .normal && s.suppStage == .normal && s.rcv.stage == .normal
    && s.configValid && s.link.state == .active && !s.peerLoss && !s.cell.overcurrent

/-! ### Permit contribution (R40) -/

def State.breakerFault (s : State) : Bool := s.grid.running && s.grid.state == .breakerFault

/-- The station grants: it drives PERMIT recessive (R40). -/
def State.grantsPermit (s : State) : Bool :=
  s.link.state == .active && s.configValid && s.fire.localStage == .normal && s.publishedStage == .normal
    && s.rcv.stage == .normal && !s.anyTrip && s.cont.state != .welded && !s.cont.lockout && !s.breakerFault && !s.memberMissing

/-! ### Single drives -/

/-- GRIDPRES drive: dominant while the grid-present count stands at 2, at a station whose GRID runs (R26, R170). -/
def State.gridPresDrive (s : State) : Bool := s.holds .grid && s.grid.running && s.grid.presentCount == 2

/-- DEGRADED drive: dominant while the chiller fault count stands at 2 at the PLANT station (R26, R145). -/
def State.degradedDrive (s : State) : Bool := s.holds .plant && s.plant.chFaults == 2

/-- SUPP acts alone in LISTENING, in FAULT and in peer loss (R166). -/
def State.suppAlone (s : State) : Bool := s.link.state != .active || s.peerLoss

/-- The HOLD reading SUPP uses (R162, R166): `true` is 1, no hold. -/
def State.holdReading (s : State) : Bool := if s.suppAlone then !s.fire.holdDrive else s.rcv.hold

/-- Some temperature channel is faulted: HELD or EXPIRED (4.4, R72). -/
def State.anyTempFault (s : State) : Bool := s.meas.temps.any fun t => t.state == .held || t.state == .expired

/-- LINE_FAULT on some line (R153). -/
def State.anyLineFault (s : State) : Bool := s.fire.lines.any (·.lineFault)

/-- Running chiller stages (R147). -/
def State.runningStages (s : State) : Nat := s.plant.stages.countP (·.running)

/-- Bleed drivers on (R95). -/
def State.bleedCount (s : State) : Nat := s.cell.bleed.countP id

/-! ### Fire lines in use (R151) -/

def State.lineCfg (s : State) (i : Nat) : LineCfg := s.config.lines.getD i ⟨.unused, .level⟩

/-- A line counts as active (R151): never of type UNUSED, never OPEN or SHORT. -/
def lineActive (c : LineCfg) (l : FireLine) : Bool :=
  c.type != .unused &&
    match c.mode with
    | .level => l.filtered == .active
    | .edge => l.latch && (l.filtered == .normal || l.filtered == .active)

def FireLine.initial : FireLine := ⟨.normal, none, false, false⟩

def State.lineIsActive (s : State) (i : Nat) : Bool := lineActive (s.lineCfg i) (s.fire.lines.getD i FireLine.initial)

/-- A set of the six lines as a byte, FLk at bit k (12.3). -/
def lineSet (f : Nat → Bool) : Byte :=
  BitVec.ofNat 8 ((List.range 6).foldl (fun n k => n + if f k then 2 ^ k else 0) 0)

/-- The active-lines set of FIRE_REPORT (R151, R159). -/
def State.activeLines (s : State) : Byte := lineSet s.lineIsActive

/-- The faulted-lines set of FIRE_REPORT (R153). -/
def State.faultedLines (s : State) : Byte := lineSet fun k => (s.fire.lines.getD k FireLine.initial).lineFault

/-! ### Breaker -/

def BreakerState.code : BreakerState → Nat
  | .brkOpen => 0 | .reconnectWait => 1 | .closing => 2 | .closed => 3 | .tripping => 4 | .breakerFault => 5 | .recloseLockout => 6

/-- Age of a record: uptime now minus its uptime, modulo 2^32 (R183). -/
def TripRecord.age (now : BitVec 32) (r : TripRecord) : Nat := (now - r.uptime).toNat

/-- The lockout records: unacknowledged GRID_LOSS records younger than 3600 s (R184). -/
def Retained.lockoutRecords (r : Retained) : Nat :=
  r.records.countP fun t => t.cause == .gridLoss && !t.acknowledged && decide (t.age r.uptime < 3600)

/-- The close test of RECONNECT_WAIT (R175). -/
def State.closeTest (s : State) : Bool :=
  s.grid.closeRequested && reached (s.config.reconnectDelay * second) s.grid.reconnect && s.grid.permitCount == 5
    && s.rcv.stage == .normal && s.grid.pcsReady && decide (s.retained.lockoutRecords < 3)

/-! ### STATUS (R60, 12.3) -/

def bitWeight (b : Bool) (k : Nat) : Nat := if b then 2 ^ k else 0

/-- Flags, first group. -/
def State.statusFlags0 (s : State) : Nat :=
  bitWeight s.configInvalid 7 + bitWeight s.monitor.stranger 5 + bitWeight s.mail.noticeUndelivered 4
    + bitWeight s.mail.outboundDropped 3 + bitWeight s.mail.inboundOverrun 2 + bitWeight s.cfg.roleYielded 1
    + bitWeight s.link.lineStuck 0

/-- Flags, second group. -/
def State.statusFlags1 (s : State) : Nat :=
  bitWeight s.meas.sensorFault 7 + bitWeight s.cont.closeFail 6 + bitWeight s.cont.welded 5 + bitWeight s.cell.overcurrent 4
    + bitWeight s.anyLineFault 3 + bitWeight s.supp.releaseFault 2 + bitWeight s.breakerFault 1 + bitWeight s.cont.lockout 0

/-- Role state: the GRID state at the GRID station, else the running stages at the PLANT station, else 0 (R60). -/
def State.roleState (s : State) : Nat :=
  if s.holds .grid then s.grid.state.code else if s.holds .plant then s.runningStages else 0

/-- The eight payload bytes of STATUS. -/
def State.statusPayload (s : State) : List Byte :=
  [s.statusFlags0, s.statusFlags1, s.cont.state.code, s.publishedStage.rank, s.worstClass.code, s.alw.published.chg,
    s.alw.published.dis, s.roleState * 16 + s.therm.published].map (BitVec.ofNat 8)

/-! ### ALERT (R195, R196) -/

/-- The steady pattern's condition. -/
def State.alertSteady (s : State) : Bool :=
  s.fire.localStage != .normal || s.rcv.stage != .normal || s.suppStage != .normal

/-- The fast pattern's conditions. -/
def State.alertFast (s : State) : Bool :=
  s.anyTrip || s.cont.welded || (s.grid.running && (s.grid.state == .breakerFault || s.grid.state == .recloseLockout))
    || s.configInvalid || s.link.state == .fault || s.cont.lockout || s.supp.releaseFault || s.strapInvalid

/-- The slow pattern's conditions. -/
def State.alertSlow (s : State) : Bool :=
  s.anyWarn || s.anyLineFault || s.meas.sensorFault || s.memberMissing || s.monitor.stranger || s.cont.closeFail
    || s.cell.overcurrent || s.mail.noticeUndelivered || s.mail.outboundDropped || s.mail.inboundOverrun || s.cfg.roleYielded
    || s.link.lineStuck

/-- The output at tick `n` after the end of reset (R196). -/
def State.alertLevel (s : State) (n : Nat) : Bool :=
  if s.alertSteady then true
  else if s.alertFast then n / 8 % 2 == 0
  else if s.alertSlow then n / 32 % 2 == 0
  else false

end Sys2Proof.Machine
end

