-- ==== Sys2Proof/Machine/Operands.lean ====
section
/-! DEFINITION. What the station takes in from outside, and how it meets it bit by bit: LDATA bits with the drop-out of R21 and the echo
checks of R13 and R45, the field area (12.1), the notice slot (12.2), raw codes and their calibration (R68, R69), loop resistances (R149). -/

namespace Sys2Proof.Machine

/-! ### One bit, and runs of bits -/

/-- What the station keeps while it goes through a run of LDATA bits: the drive-fault count, whether the frame is a drive-fault
frame, whether it has driven a dominant bit, the fault that stopped it, and, for each bit so far, whether it drove dominant and
whether it sampled dominant. -/
structure BitAcc where
  faults : Nat
  marked : Bool
  drove : Bool
  stop : Option FaultReason
  driven : List Bool
  seen : List Bool
  deriving DecidableEq, Repr

/-- The start of a run: the frame's items as the link holds them. -/
def Link.bitAcc (l : Link) : BitAcc := ⟨l.driveFaults, l.frameFaulted, l.droveDominant, none, [], []⟩

/-- The sample of a bit: dominant when another station pulls the line low, or when the station does and its drive reaches its own
sample (R1, R13). -/
def sampleBit (drive : Bool) (b : LineBit) : Bool := b.peers || (drive && !b.broken)

/-- One bit. Driven dominant and sampled recessive: the first such bit of a frame makes it a drive-fault frame and adds one to the
count; at 3 the station enters FAULT there (R13). With `clash`, driven recessive and sampled dominant is an address clash (R45). After
a fault the station takes no further bit. -/
def BitAcc.bit (clash drive : Bool) (b : LineBit) (a : BitAcc) : BitAcc :=
  if a.stop.isSome then a
  else
    let dom := sampleBit drive b
    let fresh := drive && !dom && !a.marked
    { faults := a.faults + fresh.toNat
      marked := a.marked || fresh
      drove := a.drove || drive
      stop := if fresh && decide (3 ≤ a.faults + 1) then some .driveFault
              else if clash && !drive && dom then some .addressClash else none
      driven := a.driven ++ [drive]
      seen := a.seen ++ [dom] }

/-- The bit-serial minimum of R21 over the bits at hand: the station sends `v` (none: it does not contribute) in `w` bits, most
significant first, and drops out at the first bit it drives recessive and samples dominant. Answers what it kept and whether it has
dropped out. -/
def sendField : Nat → Option Nat → Bool → List LineBit → BitAcc → BitAcc × Bool
  | 0, _, dropped, _, a => (a, dropped)
  | _ + 1, _, dropped, [], a => (a, dropped)
  | w + 1, v, dropped, b :: rest, a =>
    let one : Bool := match v with
      | some n => n.testBit w
      | none => true
    let drive := !dropped && !one
    let lost := v.isSome && one && sampleBit drive b
    sendField w v (dropped || lost) rest (a.bit false drive b)

/-- Fields one after another (2.1); each starts without drop-out. -/
def sendFields : List (Nat × Option Nat) → List LineBit → BitAcc → BitAcc
  | [], _, a => a
  | (w, v) :: fs, bits, a => sendFields fs (bits.drop w) (sendField w v false bits a).1

/-- The winner's bits, or an undriven stretch (all recessive), one after another. -/
def sendBits (clash : Bool) : List Bool → List LineBit → BitAcc → BitAcc
  | [], _, a => a
  | _ :: _, [], a => a
  | v :: vs, b :: rest, a => sendBits clash vs rest (a.bit clash (!v) b)

/-- A line bit in which no other station pulls LDATA low and the own driver works. -/
def quietBit : LineBit := ⟨false, false⟩

/-- The first `n` bits of a line, quiet where the operand gives none. -/
def padLine (n : Nat) (bits : List LineBit) : List LineBit := bits.take n ++ List.replicate (n - bits.length) quietBit

/-- `len` bits of a run from bit `at'` as a number: dominant is 0, recessive 1. -/
def readBits (seen : List Bool) (at' len : Nat) : Nat := bitsVal (((seen.drop at').take len).map (!·))

/-- `len` bits as a set: dominant is a member (12.1). -/
def readSet (seen : List Bool) (at' : Nat) : AddrSet := BitVec.ofNat 32 (bitsVal ((seen.drop at').take 32))

/-! ### The field area (2.1, 12.1) -/

/-- Bits of the field area. -/
def areaBits : Nat := 112

/-- A single-bit field: a dominant drive is the value 0 (R20). -/
def singleBit (dominant : Bool) : Nat × Option Nat := (1, if dominant then some 0 else none)

/-- A set field: frame bit order is address 31 first; the station drives its own bit alone (R20, R23, R24). -/
def setField (own : Nat) (dominant : Bool) : List (Nat × Option Nat) :=
  (List.range 32).map fun k => singleBit (31 - k == own && dominant)

/-- FIRE contribution (R27). -/
def State.fireContribution (s : State) : Nat := (7 - s.publishedStage.rank) * 32 + s.own

/-- The station's contributions, in the order of the field area (2.1). -/
def State.fieldPlan (s : State) : List (Nat × Option Nat) :=
  let pair (v : Nat) : Option Nat := if s.cont.state.contributes then some v else none
  (8, none) :: setField s.own true ++ setField s.own s.cont.state.closedBit ++
    [singleBit (!s.grantsPermit), singleBit s.fire.holdDrive, singleBit s.gridPresDrive, singleBit s.degradedDrive,
     (8, some s.fireContribution), (8, pair s.alw.published.chg), (8, pair s.alw.published.dis), (4, some (15 - s.therm.published)),
     (8, none)]

/-- How many entries of the area have begun at `t` µs of the frame, the first at `at'` (R5, R19). -/
def entriesBegun (t : Nat) : Nat → List (Nat × Option Nat) → Nat
  | _, [] => 0
  | at', (w, _) :: es => if at' ≤ t then entriesBegun t (at' + bitTime * w) es + 1 else 0

/-- The contributions fixed after `d` µs more: each entry that begins in that time takes the value its block publishes then (R5, R19). An
entry that begins at the very instant of a command's change is read before the change (DESIGN CHOICE, log 9). -/
def State.fixedAfter (d : Nat) (s : State) : List (Nat × Option Nat) :=
  match s.link.state, s.link.phase, s.link.frameTime with
  | .active, .fields, some t =>
    s.link.fixed ++ (s.fieldPlan.take (entriesBegun (t + d) syncEnd s.fieldPlan)).drop s.link.fixed.length
  | _, _, _ => s.link.fixed

/-- Start of the ACK bit of a notice of LENGTH 0; each further byte puts it 64 µs later (R41, 12.2). -/
def firstAck : Nat := fieldsEnd + bitTime * 30

/-- How many ACK bits, of LENGTH 0 to 8, have begun at `t` µs of the frame. -/
def acksBegun (t : Nat) : Nat := if t < firstAck then 0 else min 9 ((t - firstAck) / (8 * bitTime) + 1)

/-- The room in the inbound queue at the start of each ACK bit, after `d` µs more (R47). -/
def State.roomAfter (d : Nat) (s : State) : List Bool :=
  match s.link.state, s.link.phase, s.link.frameTime with
  | .active, .slot, some t =>
    s.link.slotRoom ++
      List.replicate (acksBegun (t + d) - s.link.slotRoom.length) (decide (s.mail.inbound.length < inboundCapacity))
  | _, _, _ => s.link.slotRoom

/-- `d` µs of the station's own time base pass (R2): every running timer advances, and the contributions and ACK decisions of the bits that
begin in that time are fixed; nothing else changes. -/
def State.elapse (d : Nat) (s : State) : State :=
  (s.advance d).setLink { s.link.elapse d with fixed := s.fixedAfter d, slotRoom := s.roomAfter d }

/-- A command's shape: without supply nothing acts (table row SUPPLY_LOSS, R191); otherwise `dt` passes, the step `f` is taken, and
CFG watches the in-operation flags. -/
def act (dt : Nat) (f : State → State) (s : State) : Host.Outcome State Fault Refusal :=
  .next (if s.powered then settle (s.elapse dt) (f (s.elapse dt)) else s)

/-- The readings of a whole field area (R20 to R22, 12.1). -/
def readFields (seen : List Bool) : FieldReadings where
  presence := readSet seen 8
  closed := readSet seen 40
  permit := readBits seen 72 1 == 1
  hold := readBits seen 73 1 == 1
  gridPres := readBits seen 74 1 == 1
  degraded := readBits seen 75 1 == 1
  fire := readBits seen 76 8
  chg := readBits seen 84 8
  dis := readBits seen 92 8
  demand := readBits seen 100 4

/-- Stage and source of a FIRE reading (R27). -/
def decodeFire (v : Nat) : FireStage × Nat :=
  (match v / 32 with
    | 7 => .normal
    | 6 => .preAlarm
    | 5 => .alarm
    | 4 => .releasePending
    | _ => .released, v % 32)

/-! ### The notice slot (3.1, 12.2) -/

/-- Slot bits of a notice of LENGTH 8. -/
def slotBits : Nat := 95

/-- DEST, KIND, LENGTH and PAYLOAD as bits. -/
def bodyBits (dest kind : Nat) (payload : List Byte) : List Bool :=
  bitsOf 5 dest ++ bitsOf 5 kind ++ bitsOf 4 payload.length ++ payload.flatMap fun b => bitsOf 8 b.toNat

/-- The bits CHECK covers: PRIORITY to PAYLOAD (R197). -/
def coveredBits (priority source dest kind : Nat) (payload : List Byte) : List Bool :=
  bitsOf 2 priority ++ bitsOf 5 source ++ bodyBits dest kind payload

/-- What the winner drives from DEST to CHECK (R44). -/
def noticeBits (own : Nat) (n : OutNotice) : List Bool :=
  bodyBits n.dest n.kind.code n.payload ++
    bitsOf 8 (crc8 (coveredBits n.priority.code own n.dest n.kind.code n.payload)).toNat

/-- What a run through a slot came to. `sent` is the candidate that won; `ack` the ACK sample of its slot; `heard` an accepted notice that
the receiver has not had to discard for want of room at its ACK bit; `ended` the number of slot bits after which the slot phase ends at this
station (R41). -/
structure SlotRun where
  acc : BitAcc
  sent : Option OutNotice
  ack : Bool
  heard : Option InNotice
  ended : Nat
  deriving DecidableEq, Repr

/-- The start of a run through the slot: the frame's items as the link holds them, with the bits of an arbitration that has ended. -/
def Link.slotAcc (l : Link) : BitAcc :=
  match l.arb with
  | some arb => ⟨l.driveFaults, l.frameFaulted, l.droveDominant, none, l.slotDrive, arb.seen⟩
  | none => l.bitAcc

/-- The candidate of the slot now running (R42). -/
def Mail.candidate (m : Mail) : Option OutNotice := m.outbound.find? fun n => n.mark != .waiting

/-- A notice as the slot's samples give it. -/
def parseNotice (seen : List Bool) : InNotice :=
  let len := readBits seen 17 4
  { priority := readBits seen 0 2, source := readBits seen 2 5, dest := readBits seen 7 5, kind := readBits seen 12 5,
    payload := (List.range len).map fun j => BitVec.ofNat 8 (readBits seen (21 + 8 * j) 8),
    check := readBits seen (21 + 8 * len) 8 }

/-- A receiver accepts: LENGTH 0 to 8, CRC equal, DEST own or broadcast, SOURCE another's (R46). -/
def accepts (own : Nat) (n : InNotice) : Bool :=
  decide (n.payload.length ≤ 8)
    && (crc8 (coveredBits n.priority n.source n.dest n.kind n.payload)).toNat == n.check
    && (n.dest == own || n.dest == broadcast) && n.source != own

/-- The winner's part of a slot: DEST to CHECK with the clash check, then turnaround and ACK undriven (R44, R45). -/
def runWinner (own : Nat) (n : OutNotice) (bits : List LineBit) (a : BitAcc) : SlotRun :=
  let len := 30 + 8 * n.payload.length
  let b := sendBits true (noticeBits own n) (bits.drop 7) a
  let b := sendBits false [true, true] (bits.drop (len - 1)) b
  { acc := b, sent := some n, ack := b.seen.getD len false, heard := none, ended := len + 1 }

/-- A receiver's part of a slot (R46 to R48): it stops after a LENGTH of 9 to 15; otherwise it samples to the end and drives ACK
dominant for an accepted directed notice for which its inbound queue had room at the start of the ACK bit; without that room it discards
the notice. `room` is by LENGTH. -/
def runReceiver (own : Nat) (room : List Bool) (bits : List LineBit) (a : BitAcc) : SlotRun :=
  let b := sendBits false (List.replicate 14 true) (bits.drop 7) a
  let len := readBits b.seen 17 4
  if 8 < len then { acc := b, sent := none, ack := false, heard := none, ended := 21 }
  else
    let b := sendBits false (List.replicate (8 * len + 9) true) (bits.drop 21) b
    let n := parseNotice b.seen
    let ok := accepts own n
    let drive := ok && n.dest == own && room.getD len false
    let b := sendBits false [!drive] (bits.drop (30 + 8 * len)) b
    { acc := b, sent := none, ack := drive, heard := if ok && (drive || n.dest == broadcast) then some n else none, ended := 31 + 8 * len }

/-- The run through PRIORITY and SOURCE has no winner: it stopped or was cut before the end of slot bit 6, or SOURCE reads 31 (R43). -/
def BitAcc.noWinner (a : BitAcc) : Bool := a.stop.isSome || a.seen.length < 7 || readBits a.seen 2 5 == 31

/-- Arbitration by PRIORITY and SOURCE over the bits at hand (R43), with the own notice that has won; one that has ended stands as it is. -/
def arbitrate (s : State) (bits : List LineBit) : BitAcc × Option OutNotice :=
  match s.link.arb with
  | some arb => (s.link.slotAcc, arb.sent)
  | none =>
    let cand := s.mail.candidate
    let (a, dropped) := sendField 7 (cand.map fun n => n.priority.code * 32 + s.own) false bits s.link.slotAcc
    (a, if dropped || a.noWinner then none else cand)

/-- A slot over the bits at hand, counted from slot bit 0: arbitration, idle when SOURCE reads 31, then the winner's or a receiver's
part. -/
def runSlot (s : State) (bits : List LineBit) : SlotRun :=
  let (a, sent) := arbitrate s bits
  if a.noWinner then { acc := a, sent := none, ack := false, heard := none, ended := 7 }
  else
    match sent with
    | some n => runWinner s.own n bits a
    | none => runReceiver s.own s.link.slotRoom bits a

/-! ### Measurement channels (R64, R68, R69) -/

/-- Channel `c` of the 26 is in use (R64): 0 to 15 cell groups, 16 to 23 temperatures, 24 current, 25 bus. -/
def channelInUse (c : Config) (ch : Nat) : Bool :=
  if ch < 16 then decide (ch < c.cellCount)
  else if ch < 24 then c.tempSet.getLsbD (ch - 16)
  else decide (ch < 26)

/-- The channels in use, in conversion order (R66). -/
def channelsInUse (c : Config) : List Nat := (List.range 26).filter (channelInUse c)

/-- A clamp to a range (00_scope, Rounding). -/
def clampTo (lo hi v : Int) : Int := if v < lo then lo else if hi < v then hi else v

/-- An input beyond the converter's range gives the code at the nearer end (R68). -/
def rawCode (ch : Nat) (input : Int) : Int := if ch = 24 then clampTo (-32768) 32767 input else clampTo 0 65535 input

/-- The calibrated value of a raw code (R69). -/
def calibrate (k : Calib) (ch : Nat) (raw : Int) : Int :=
  if ch < 16 then clampTo 0 5000 ((raw * k.gain + 81920) / 163840 + k.offset)
  else if ch < 24 then clampTo (-400) 1250 ((raw * k.gain + 8192) / 16384 + k.offset - 400)
  else if ch = 24 then clampTo (-32768) 32767 ((raw * k.gain + 8192) / 16384 + k.offset)
  else clampTo 0 65535 ((raw * k.gain + 8192) / 16384 + k.offset)

/-- A good temperature code is 50 to 2000 (R70). -/
def goodTempCode (raw : Int) : Bool := within 50 raw 2000

/-! ### Fire loops (R149) -/

/-- The band of a loop resistance in Ω. -/
def loopBand (ohm : Nat) : Band :=
  if ohm < 500 then .short else if ohm < 3200 then .active else if ohm < 10000 then .normal else .openLoop

def loopAt (l : Loops) : Nat → Nat
  | 0 => l.fl0 | 1 => l.fl1 | 2 => l.fl2 | 3 => l.fl3 | 4 => l.fl4 | _ => l.fl5

end Sys2Proof.Machine
end

