-- ==== Sys2Proof/Machine/Cells.lean ====
section
/-! DEFINITION. CELL (chapter 5): classes, overcurrent, balancing. -/

namespace Sys2Proof.Machine

/-- A run that rises by one to at most `top` while its condition holds, and returns to 0 otherwise (R83, R88, R119). -/
def bump (top : Nat) (holds : Bool) (n : Nat) : Nat := if holds then min top (n + 1) else 0

/-- The candidate class of one scan (R82). -/
def cellCandidate (c : Config) (v : Int) (mark : Bool) : CellClass :=
  if mark then .openWire
  else if c.highTrip ≤ v then .highTrip
  else if c.highWarn ≤ v then .highWarn
  else if v ≤ c.lowTrip then .lowTrip
  else if v ≤ c.lowWarn then .lowWarn
  else .normal

/-- The side a candidate leaves behind (R83). -/
def nextSide (cand : CellClass) (last : Side) : Side :=
  match cand with
  | .lowWarn | .lowTrip => .low
  | .highWarn | .highTrip => .high
  | .normal | .openWire => last

/-- The exit condition of a WARN class (R83). -/
def exitMet (c : Config) (cls : CellClass) (v : Int) : Bool :=
  match cls with
  | .highWarn => decide (v < c.highWarn - c.cellHyst)
  | .lowWarn => decide (c.lowWarn + c.cellHyst < v)
  | _ => false

/-- The class entered at a level, on a side (R84). -/
def enteredClass (level : Nat) (side : Side) : CellClass :=
  match level, side with
  | 3, _ => .openWire
  | 2, .low => .lowTrip
  | 2, _ => .highTrip
  | _, .low => .lowWarn
  | _, _ => .highWarn

/-- Runs, last side and exit count from one scan's candidate (R83). -/
def CellChan.count (c : Config) (v : Int) (mark : Bool) (ch : CellChan) : CellChan :=
  let cand := cellCandidate c v mark
  { ch with
    warnRun := bump 3 (decide (1 ≤ cand.severity)) ch.warnRun
    tripRun := bump 3 (decide (2 ≤ cand.severity)) ch.tripRun
    openRun := bump 3 (cand == .openWire) ch.openRun
    exitCount := bump 5 (exitMet c ch.cls v && cand != .openWire) ch.exitCount
    lastSide := nextSide cand ch.lastSide }

/-- Exit: a WARN class with exit count 5 returns to NORMAL (R85). -/
def CellChan.exit (ch : CellChan) : CellChan :=
  if ch.cls.severity = 1 ∧ ch.exitCount = 5 then { ch with cls := .normal, exitCount := 0 } else ch

/-- Entry: the highest level whose run has reached 3, if above the present severity (R84). -/
def CellChan.enter (ch : CellChan) : CellChan :=
  let level := if ch.openRun = 3 then 3 else if ch.tripRun = 3 then 2 else if ch.warnRun = 3 then 1 else 0
  if ch.cls.severity < level then { ch with cls := enteredClass level ch.lastSide, exitCount := 0 } else ch

/-- One channel at a scan completion: counts, exit, entry (R83 to R85, R96). -/
def CellChan.scan (c : Config) (v : Int) (mark : Bool) (ch : CellChan) : CellChan := ((ch.count c v mark).exit).enter

/-- One channel at ALARM_RESET: a latched channel inside the band and without an open-wire mark returns to NORMAL (R86). -/
def CellChan.reset (c : Config) (v : Int) (mark : Bool) (ch : CellChan) : CellChan :=
  if ch.cls.latched && decide (c.lowWarn + c.cellHyst < v) && decide (v < c.highWarn - c.cellHyst) && !mark then
    { ch with cls := .normal, warnRun := 0, tripRun := 0, openRun := 0, exitCount := 0 }
  else ch

/-- The channels in use, each by its voltage and mark of the latest completion. -/
def mapChannels (c : Config) (res : ResultSet) (f : Int → Bool → CellChan → CellChan) (chans : List CellChan) : List CellChan :=
  (List.range 16).map fun i =>
    let ch := chans.getD i CellChan.initial
    if i < c.cellCount then f (res.values.getD i 0) (res.openMarks.getD i false) ch else ch

/-- The rack current exceeds the published pair by the margin, in either direction (R88). -/
def overMargin (current : Int) (p : Pair) : Bool :=
  decide ((p.dis : Int) * 12 + 50 < current) || decide ((p.chg : Int) * 12 + 50 < -current)

/-! ### Balancing (R91, R92) -/

/-- Inserts a candidate behind every candidate of at least its excess. -/
def insertExcess (x : Nat × Int) : List (Nat × Int) → List (Nat × Int)
  | [] => [x]
  | y :: ys => if y.2 < x.2 then x :: y :: ys else y :: insertExcess x ys

/-- The candidates with their excess over Vmin, in the order of the channels (R92). -/
def bleedCandidates (c : Config) (res : ResultSet) (chans : List CellChan) (vmin : Int) : List (Nat × Int) :=
  ((List.range c.cellCount).filter fun i =>
    let cls := (chans.getD i CellChan.initial).cls
    (cls == .normal || cls == .highWarn) && decide (c.window < res.values.getD i 0 - vmin)).map
      fun i => (i, res.values.getD i 0 - vmin)

/-- The bleed set: the first of the order by excess, largest first, equal excesses by index, up to the configured maximum and never
more than 8 (R92, R93). -/
def chooseBleed (c : Config) (res : ResultSet) (chans : List CellChan) (vmin : Int) : List Bool :=
  let order := (bleedCandidates c res chans vmin).foldl (fun l x => insertExcess x l) []
  let chosen := (order.take (min c.maxBleed 8)).map (·.1)
  (List.range 16).map fun i => chosen.contains i

/-- Every bleed driver off. -/
def noBleed : List Bool := List.replicate 16 false

/-- Balancing is allowed at this completion (R91). -/
def State.mayBalance (s : State) : Bool :=
  s.cell.balanceEnable && s.fire.localStage == .normal && s.rcv.stage == .normal && s.meas.summary.valid
    && decide (s.meas.summary.current ≤ 20) && decide (s.meas.summary.tmax < s.config.balanceTemp) && !s.anyTrip

/-- Classes, then the overcurrent count, of a completion (R96, first to third). -/
def cellJudge (s : State) : State :=
  let c := s.config
  let count := bump 5 (overMargin s.meas.summary.current s.alw.published) s.cell.overCount
  s.setCell { s.cell with
    chans := mapChannels c s.meas.result (CellChan.scan c) s.cell.chans
    overCount := count
    overcurrent := s.cell.overcurrent || count == 5 }

/-- The open request to CONT: OVERCURRENT was set at this completion (R89). -/
def openRequested (before after : State) : Bool := after.cell.overcurrent && !before.cell.overcurrent

/-- The bleed set of a completion (R96, fourth). -/
def cellBalance (s : State) : State :=
  s.setCell { s.cell with
    bleed := if s.mayBalance then chooseBleed s.config s.meas.result s.cell.chans s.meas.summary.vmin else noBleed }

/-- CELL at a scan completion (R96). -/
def cellScan (s : State) : State := cellBalance (cellJudge s)

/-- CELL switches every bleed driver off and empties the bleed set (R66, R90, R94). -/
def bleedOff (s : State) : State := s.setCell { s.cell with bleed := noBleed }

/-- CELL at a stage change (R94). -/
def cellStage (s : State) : State :=
  if s.fire.localStage != .normal || s.rcv.stage != .normal then bleedOff s else s

/-- CELL at ALARM_RESET (R86, R89, R97). -/
def cellReset (s : State) : State :=
  let c := s.config
  s.setCell { s.cell with
    chans := mapChannels c s.meas.result (CellChan.reset c) s.cell.chans, overCount := 0, overcurrent := false }

/-- CELL at BALANCE_SET (R90). -/
def balanceSetTaken (on : Bool) (s : State) : State :=
  if on then s.setCell { s.cell with balanceEnable := true }
  else s.setCell { s.cell with balanceEnable := false, bleed := noBleed }

end Sys2Proof.Machine
end

