-- ==== Sys2Proof/Machine/Allowance.lean ====
section
/-! DEFINITION. ALW (chapter 6): profiles, the allowance pair, caps, container limits. -/

namespace Sys2Proof.Machine

/-- The value of a table at a temperature (R101): held outside the breakpoints, linear with floor between them. -/
def tableValue (t : Int) : List Breakpoint → Int
  | [] => 0
  | [b] => b.percent
  | b0 :: b1 :: bs =>
    if t < b0.temp then b0.percent
    else if t < b1.temp then b0.percent + (b1.percent - b0.percent) * (t - b0.temp) / (b1.temp - b0.temp)
    else tableValue t (b1 :: bs)

/-- Temperature percent: the smaller of the table values at Tmin and Tmax (R102). -/
def tempPercent (table : List Breakpoint) (m : Summary) : Int := min (tableValue m.tmin table) (tableValue m.tmax table)

/-- Charge voltage percent (R103). -/
def chargePercent (p : Profile) (vmax : Int) : Int :=
  if vmax ≤ p.chargeKnee then 100
  else if p.chargeCeiling ≤ vmax then 0
  else 100 * (p.chargeCeiling - vmax) / (p.chargeCeiling - p.chargeKnee)

/-- Discharge voltage percent (R103). -/
def dischargePercent (p : Profile) (vmin : Int) : Int :=
  if p.dischargeKnee ≤ vmin then 100
  else if vmin ≤ p.dischargeFloor then 0
  else 100 * (vmin - p.dischargeFloor) / (p.dischargeKnee - p.dischargeFloor)

/-- The smallest of the caps that apply at a completion; 100 when none does (R104). -/
def State.capPercent (s : State) : Int :=
  if s.meas.summary.expired ≠ 0 ∨ s.anyTrip ∨ !s.configValid then 0
  else if s.rcv.degraded then s.config.degradedCap
  else 100

/-- floor(rated × percent / 100) in A (R105). -/
def allowance (rated : Nat) (percent : Int) : Nat := ((rated : Int) * percent / 100).toNat

/-- The computed pair under a profile (R101 to R105). -/
def State.computePair (s : State) (p : Profile) : Pair :=
  let m := s.meas.summary
  let cap := s.capPercent
  { chg := allowance s.config.rated (min (min (tempPercent p.charge m) (chargePercent p m.vmax)) cap)
    dis := allowance s.config.rated (min (min (tempPercent p.discharge m) (dischargePercent p m.vmin)) cap) }

/-- The publication caps of R107: both 0 at ALARM or above or with the contactor WELDED; the charge value 0 at PRE_ALARM. -/
def publicationCap (stage : FireStage) (cont : ContState) (p : Pair) : Pair :=
  if stage.isAlarm ∨ cont = .welded then ⟨0, 0⟩
  else if stage = .preAlarm then { p with chg := 0 }
  else p

/-- ALW at a cap event between completions (R108): a cause that has gone raises nothing. -/
def publishCaps (s : State) : State :=
  s.setAlw { s.alw with published := publicationCap s.capStage s.cont.state s.alw.published }

/-- The rise limit (R106). -/
def riseLimit (step : Nat) (computed published : Pair) : Pair :=
  { chg := min computed.chg (published.chg + step), dis := min computed.dis (published.dis + step) }

/-- ALW at a scan completion, in the order of R109. -/
def alwScan (s : State) : State :=
  let active := s.alw.pendingProfile.getD s.alw.active
  let computed := s.computePair (s.config.profiles.getD active builtInProfile)
  s.setAlw { s.alw with
    active := active
    pendingProfile := none
    computed := computed
    published := publicationCap s.capStage s.cont.state (riseLimit s.config.riseStep computed s.alw.published) }

/-- ALW at PROFILE_SELECT (R99). -/
def profileSelectTaken (index : Nat) (s : State) : State := s.setAlw { s.alw with pendingProfile := some index }

/-! ### Container limits (6.4) -/

/-- Addresses in a set: the n of R110, which is 32 for a reading with every bit dominant, address 31's too (DESIGN CHOICE, log 31: R24 and
R110 give n as 0 to 31). -/
def setCount (x : AddrSet) : Nat := (List.range 32).countP fun a => x.getLsbD a

/-- One container limit from a reading (R110). -/
def limitOf (c : Config) (reading n : Nat) : Nat :=
  if n = 0 ∨ reading = 255 then 0 else min c.pcsMax (reading * n * c.share / 100)

/-- The container limits as R110 and R112 give them. -/
def State.computeLimits (s : State) : Pair :=
  if s.holds .grid && s.grid.running && s.grid.state == .closed && s.link.state != .fault then
    let n := setCount s.rcv.closed
    ⟨limitOf s.config s.rcv.chg n, limitOf s.config s.rcv.dis n⟩
  else ⟨0, 0⟩

/-- A limit as a 12-bit duty (R113). -/
def dutyOf (c : Config) (limit : Nat) : Nat := limit * 4095 / c.pcsMax

/-- ALW sets the limits and, at the same instant, the duties (R112, R113). -/
def refreshLimits (s : State) : State :=
  let p := s.computeLimits
  s.setAlw { s.alw with limits := p, duties := ⟨dutyOf s.config p.chg, dutyOf s.config p.dis⟩ }

end Sys2Proof.Machine
end

