-- ==== Sys2Proof/Machine/Thermal.lean ====
section
/-! DEFINITION. THERM and PLANT (chapter 8): zone level, fire override, chiller stages, fresh-air damper. -/

namespace Sys2Proof.Machine

/-! ### THERM -/

/-- The raw level of a temperature (R132). -/
def rawLevel (c : Config) (tmax : Int) : Nat :=
  if tmax < c.zoneBase then 0 else min 15 (1 + (tmax - c.zoneBase) / c.zoneStep).toNat

/-- The base level after a completion (R132). -/
def nextBase (c : Config) (tmax : Int) (base : Nat) : Nat :=
  let raw := rawLevel c tmax
  if base < raw then raw
  else if base ≠ 0 ∧ tmax < c.zoneBase + ((base : Int) - 1) * c.zoneStep - c.zoneHyst then base - 1
  else base

/-- The published level with the extra level of R133. -/
def zoneLevel (base bleeds rated : Nat) (current : Int) : Nat :=
  if 4 ≤ bleeds ∨ rated * 5 < current.natAbs then min 15 (base + 1) else base

/-- Fan duty of a level, in % (R134). -/
def fanDuty (level : Nat) : Nat := if level = 0 then 0 else 25 + 5 * level

/-- The zone stopped by the fire override (R135). -/
def Therm.stopped (t : Therm) : Therm := { t with published := 0, override := true, fan := 0, damper := false }

/-- THERM at a scan completion (R132 to R135). -/
def thermScan (s : State) : State :=
  let m := s.meas.summary
  let base := nextBase s.config m.tmax s.therm.base
  let level := zoneLevel base s.bleedCount s.config.rated m.current
  if s.capStage.isAlarm then s.setTherm { s.therm.stopped with base := base }
  else s.setTherm { base := base, published := level, override := false, fan := fanDuty level, damper := level != 0 }

/-- THERM at a stage change (R135). -/
def thermStage (s : State) : State := if s.capStage.isAlarm then s.setTherm s.therm.stopped else s

/-! ### PLANT -/

/-- Target stage count without the fire step: demand, stage cap, shedding (R139). -/
def plantTarget (c : Config) (gridPres : Bool) (d : Nat) : Nat :=
  let capped := min ((d + 3) / 4) c.stageCount
  if !gridPres && decide (d < 15) then min capped c.shedLevel else capped

def PlantStage.stop (g : PlantStage) : PlantStage := { g with running := false, offTime := 0, offDone := false }
def PlantStage.start (g : PlantStage) : PlantStage := { g with running := true, onTime := some 0, onDone := false }

/-- Whether an evaluation finds a timer at its limit (R140): the limit has been taken, or the instant lies behind. At the very instant an
evaluation that is taken before the limit still waits. -/
def limitFound (limit : Nat) (done : Bool) (t : Nat) : Bool := done || decide (limit < t)

/-- The stage has run 180 s (R142). -/
def PlantStage.ranLong (g : PlantStage) : Bool :=
  match g.onTime with
  | some t => limitFound stageOnLimit g.onDone t
  | none => false

/-- The stage has been off 300 s (R141). -/
def PlantStage.offLong (g : PlantStage) : Bool := limitFound stageOffLimit g.offDone g.offTime

/-- Stops every running stage and restarts its off timer (R143, R147). -/
def stopStages (gs : List PlantStage) : List PlantStage := gs.map fun g => if g.running then g.stop else g

/-- The highest-numbered running stage stops when it has run 180 s; otherwise none does (R142). -/
def stopHighest : List PlantStage → List PlantStage
  | [] => []
  | g :: gs =>
    if gs.any (·.running) then g :: stopHighest gs
    else if g.running && g.ranLong then g.stop :: gs else g :: gs

/-- The lowest-numbered stopped stage may start: it has been off 300 s (R141). -/
def nextReady : List PlantStage → Bool
  | [] => false
  | g :: gs => if g.running then nextReady gs else g.offLong

/-- Starts the lowest-numbered stopped stage. -/
def startLowest : List PlantStage → List PlantStage
  | [] => []
  | g :: gs => if g.running then g :: startLowest gs else g.start :: gs

/-- The stagger timer shows at least 30 s, or no start since reset (R140). -/
def Plant.staggerReady (p : Plant) : Bool :=
  match p.stagger with
  | some t => limitFound staggerLimit p.staggerDone t
  | none => true

/-- Stages and stagger timer at an evaluation with a target (R141 to R143). -/
def Plant.drive (fire : Bool) (target : Nat) (p : Plant) : Plant :=
  let n := p.stages.countP (·.running)
  if fire then { p with stages := stopStages p.stages }
  else if target < n then { p with stages := stopHighest p.stages }
  else if n < target && p.staggerReady && nextReady p.stages then
    { p with stages := startLowest p.stages, stagger := some 0, staggerDone := false }
  else p

/-- One evaluation of PLANT at demand `d` (R138 to R145); CH_FAULT is sampled in ACTIVE alone (R145, R146). -/
def plantEvaluate (d : Nat) (chFault : Bool) (s : State) : State :=
  if s.holds .plant then
    let active := s.link.state == .active
    let fire := s.rcv.stage.isAlarm || (!active && s.fire.localStage.isAlarm)
    let p := s.plant.drive fire (plantTarget s.config s.rcv.gridPres d)
    s.setPlant { p with
      fadamp := s.rcv.stage == .normal && decide (1 ≤ d) && decide (d ≤ 3)
      chFaults := if active then bump 2 chFault s.plant.chFaults else 0 }
  else s

/-- PLANT at a hand-over (R139): the aggregate demand of the record. -/
def plantHandOver (chFault : Bool) (s : State) : State := plantEvaluate (15 - s.rcv.demand) chFault s

/-- PLANT at a scan completion in LISTENING and FAULT (R146): its own zone's level. -/
def plantScan (s : State) : State :=
  if s.link.state = .active then s else plantEvaluate s.therm.published false s

/-- PLANT yields (R147). -/
def plantYield (s : State) : State :=
  s.setPlant { s.plant with stages := stopStages s.plant.stages, fadamp := false, chFaults := 0 }

/-- The limit of one of the plant's timers is taken, where the timer has reached it (R140): an evaluation at this instant may act on it. -/
def Plant.takeLimit (timer : PlantTimer) (p : Plant) : Plant :=
  let at' (k : Nat) (f : PlantStage → PlantStage) : Plant := if k = 0 then p else { p with stages := p.stages.modify (k - 1) f }
  match timer with
  | .on k => at' k fun g => { g with onDone := g.onDone || reached stageOnLimit g.onTime }
  | .off k => at' k fun g => { g with offDone := g.offDone || decide (stageOffLimit ≤ g.offTime) }
  | .stagger => { p with staggerDone := p.staggerDone || reached staggerLimit p.stagger }

/-- A timer of the plant reaches its limit. -/
def plantTimerReaches (timer : PlantTimer) (s : State) : State := s.setPlant (s.plant.takeLimit timer)

/-- PLANT_TIMER_LIMIT. -/
def execPlantTimerLimit (dt : Nat) (timer : PlantTimer) (s : State) : Host.Outcome State Fault Refusal :=
  act dt (plantTimerReaches timer) s

end Sys2Proof.Machine
end

