-- ==== Sys2Proof/Machine/Contactor.lean ====
section
/-! DEFINITION. CONT (chapter 7): contactor states, close conditions, dead-bus claim, isolation button. -/

namespace Sys2Proof.Machine

/-! ### Entries -/

/-- A contactor state entered: the timers of the state left are stopped and the match count is 0 (R119, R123, R125). -/
def Cont.enter (st : ContState) (c : Cont) : Cont :=
  { c with state := st, closeTimer := none, openTimer := none, matchCount := 0 }

/-- Where an opened contactor rests: OPEN, or LOCKOUT when the lockout flag is set (R125). -/
def Cont.rest (c : Cont) : Cont := c.enter (if c.lockout then .lockout else .rackOpen)

/-- Entry to OPENING (R125): the coil is released and the open timer starts, unless CONT_AUX already reads open. -/
def Cont.open' (c : Cont) : Cont :=
  if c.auxClosed then { c.enter .opening with openTimer := some 0 } else c.rest

/-- Entry to CLOSING (R123): the coil is driven and the close timer starts, unless CONT_AUX already reads closed. -/
def Cont.close (c : Cont) : Cont :=
  if c.auxClosed then c.enter .closed else { c.enter .closing with closeTimer := some 0 }

/-- Entry to CLAIMING: one DEAD_BUS_CLAIM is handed to LINK (R122). -/
def enterClaiming (s : State) : State :=
  let k := s.cont.claim + 1
  queueNotice ⟨.control, broadcast, .deadBusClaim, [], .cont k, .waiting⟩
    (s.setCont { s.cont.enter .claiming with claim := k })

/-- Entry to WELDED (R125): the flag is set, and ALW takes the entry as a cap event (R108). -/
def enterWelded (s : State) : State := publishCaps (s.setCont { s.cont.enter .welded with welded := true })

/-- The bus reads live: Vbus of the latest scan at or above 5.00 V (R118). -/
def State.busLive (s : State) : Bool := decide (500 ≤ s.meas.summary.vbus)

/-! ### Evaluation of the close conditions (R117) -/

/-- CONT from OPEN with the close conditions holding (R118). -/
def leaveOpen (s : State) : State :=
  if s.busLive then s.setCont (s.cont.enter .waitMatch)
  else if s.cont.claimSeen.isNone then enterClaiming s
  else s

/-- An evaluation of the close conditions (R117). -/
def contEvaluate (s : State) : State :=
  if s.closeConditions then
    match s.cont.state with
    | .rackOpen => leaveOpen s
    | _ => s
  else
    match s.cont.state with
    | .waitMatch => s.setCont (s.cont.enter .rackOpen)
    | .claiming => (withdrawClaim s).setCont (s.cont.enter .rackOpen)
    | .closing | .closed => s.setCont s.cont.open'
    | _ => s

/-- Join-requested is cleared, which is an evaluation (R120). It is cleared in LOCKOUT too, where a RACK_JOIN taken between the press and the
lockout has set it (DESIGN CHOICE, log 32: R120 and R126 clear it in every state, R127 has RACK_LEAVE and presses change nothing there). -/
def clearJoin (s : State) : State := contEvaluate (s.setCont { s.cont with joinRequested := false })

/-- RACK_JOIN accepted (R120): a repeat changes nothing. -/
def rackJoinTaken (s : State) : State :=
  if s.cont.joinRequested then s else contEvaluate (s.setCont { s.cont with joinRequested := true })

/-- The overcurrent open request of CELL (R89, R123 to R125). -/
def overcurrentOpen (s : State) : State :=
  match s.cont.state with
  | .closing | .closed => s.setCont s.cont.open'
  | _ => s

/-! ### At a scan completion (R118, R119) -/

/-- The match test of a completion in WAIT_MATCH (R119). -/
def matchTest (s : State) : State :=
  let m := s.meas.summary
  let near := decide ((m.vsum - m.vbus * 10).natAbs ≤ s.config.matchWindow)
  let n := bump 3 near s.cont.matchCount
  if n = 3 then s.setCont s.cont.close else s.setCont { s.cont with matchCount := n }

/-- CONT at a scan completion: the overcurrent request, the return to OPEN on a dead bus, the evaluation, the match test. -/
def contScan (request : Bool) (s : State) : State :=
  let s := if request then overcurrentOpen s else s
  let s := if s.cont.state = .waitMatch ∧ !s.busLive then s.setCont (s.cont.enter .rackOpen) else s
  let s := contEvaluate s
  if s.cont.state = .waitMatch then matchTest s else s

/-! ### The dead-bus claim (R121, R122) -/

/-- A peer's DEAD_BUS_CLAIM taken (R121): the claim-seen timer starts afresh; from CLAIMING the own claim is withdrawn. -/
def claimTaken (s : State) : State :=
  let s := s.setCont { s.cont with claimSeen := some 0 }
  if s.cont.state = .claiming then (withdrawClaim s).setCont (s.cont.enter .rackOpen) else s

/-- The sent outcome of claim `k` (R122): acted on in CLAIMING alone, and only for the claim of its latest entry. -/
def claimSent (k : Nat) (s : State) : State :=
  if s.cont.state = .claiming ∧ s.cont.claim = k then
    if s.busLive then s.setCont (s.cont.enter .waitMatch) else s.setCont s.cont.close
  else s

/-! ### CONT_AUX and the timers -/

/-- A filtered change of CONT_AUX to closed (R116). At the instant of a failed close whose expiry was taken first, the rack is in OPENING
and its open timer handles the closed contact (R123, log 36). -/
def auxCloses (s : State) : State :=
  let late := s.cont.closeExpired
  let s := s.setCont { s.cont with auxClosed := true, auxAge := 0, closeExpired := false }
  match s.cont.state with
  | .closing => s.setCont (s.cont.enter .closed)
  | .rackOpen | .lockout => if late then s.setCont s.cont.open' else enterWelded s
  | .waitMatch => enterWelded s
  | .claiming => enterWelded (withdrawClaim s)
  | _ => s

/-- A filtered change of CONT_AUX to open (R116, R124). -/
def auxOpens (s : State) : State :=
  let s := s.setCont { s.cont with auxClosed := false, auxAge := 0 }
  match s.cont.state with
  | .closed => s.setCont { s.cont.enter .rackOpen with closeFail := true }
  | .opening | .welded => s.setCont s.cont.rest
  | _ => s

/-- CONT_AUX_CHANGE (R116): a level equal to the filtered one is no change, and a level that cannot have stood 5 ms since the filtered one
was taken changes nothing. -/
def auxChange (closed : Bool) (s : State) : State :=
  if closed = s.cont.auxClosed ∨ s.cont.auxAge < auxFilter then s else if closed then auxCloses s else auxOpens s

/-- CONT_AUX_CHANGE. -/
def execContAuxChange (dt : Nat) (closed : Bool) (s : State) : Host.Outcome State Fault Refusal := act dt (auxChange closed) s

/-- The close timer expires (R123): CLOSE_FAIL, join-requested cleared, OPENING, and on from there at once with CONT_AUX open (R125). -/
def closeExpires (s : State) : State :=
  if s.cont.state = .closing ∧ reached closeLimit s.cont.closeTimer then
    let s := clearJoin (s.setCont { s.cont with closeFail := true }.open')
    s.setCont { s.cont with closeExpired := s.cont.state != .opening }
  else s

/-- CLOSE_TIMER_EXPIRY. -/
def execCloseTimerExpiry (dt : Nat) (s : State) : Host.Outcome State Fault Refusal := act dt closeExpires s

/-- The open timer expires with CONT_AUX closed (R125): WELDED. -/
def openExpires (s : State) : State :=
  if s.cont.state = .opening ∧ s.cont.auxClosed ∧ reached openLimit s.cont.openTimer then enterWelded s else s

/-- OPEN_TIMER_EXPIRY. -/
def execOpenTimerExpiry (dt : Nat) (s : State) : Host.Outcome State Fault Refusal := act dt openExpires s

/-- The claim-seen timer expires, which is an evaluation (R121). -/
def claimSeenExpires (s : State) : State :=
  if reached claimSeenLimit s.cont.claimSeen then contEvaluate (s.setCont { s.cont with claimSeen := none }) else s

/-- CLAIM_SEEN_EXPIRY. -/
def execClaimSeenExpiry (dt : Nat) (s : State) : Host.Outcome State Fault Refusal := act dt claimSeenExpires s

/-! ### ISOLATE (R126, R127) -/

/-- One read of ISOLATE at a tick: debounce of two reads, press, release, and the hold timer in ticks. -/
def isolateTick (read : Bool) (s : State) : State :=
  let c := s.cont
  let change := read == c.isolateRead && read != c.isolateLevel
  let s := s.setCont { c with
    isolateRead := read
    isolateLevel := if change then read else c.isolateLevel
    holdTicks := if change then (if read then some 1 else none) else c.holdTicks.map (· + 1) }
  if change && read then clearJoin s else s

/-- The lockout flag is set (R127). -/
def setLockout (s : State) : State :=
  let s := s.setCont { s.cont with lockout := true }
  match s.cont.state with
  | .rackOpen | .waitMatch => s.setCont (s.cont.enter .lockout)
  | .claiming => (withdrawClaim s).setCont (s.cont.enter .lockout)
  | .closing | .closed => s.setCont s.cont.open'
  | _ => s

/-- The 400th tick of a hold (R127): the read at that tick and the debounced level are pressed. -/
def holdExpires (s : State) : State :=
  if s.cont.holdTicks = some holdLimit ∧ s.cont.isolateRead ∧ s.cont.isolateLevel then setLockout s else s

/-- ISOLATE_HOLD_EXPIRY. -/
def execIsolateHoldExpiry (dt : Nat) (s : State) : Host.Outcome State Fault Refusal := act dt holdExpires s

/-- CONT at ALARM_RESET (R129). -/
def contReset (s : State) : State :=
  s.setCont { s.cont with
    closeFail := false, welded := if s.cont.state = .welded then s.cont.welded else false }

end Sys2Proof.Machine
end

