-- ==== Sys2Proof/Machine/FireUnit.lean ====
section
/-! DEFINITION. FIRE and SUPP (chapter 9): lines, local stage, countdown, release. -/

namespace Sys2Proof.Machine

/-! ### Stage-change events and reports -/

/-- A stage change of FIRE or LINK reaches CELL, ALW, THERM and CONT (R31, R158). -/
def stageEvent (s : State) : State := contEvaluate (thermStage (publishCaps (cellStage s)))

/-- A change of SUPP's published stage reaches ALW, THERM and CONT (R160). -/
def suppEvent (s : State) : State := contEvaluate (thermStage (publishCaps s))

/-- FIRE hands LINK a FIRE_REPORT: published stage, active lines, faulted lines, as they stand (R159). -/
def queueFireReport (s : State) : State :=
  queueNotice ⟨.safety, broadcast, .fireReport,
    [BitVec.ofNat 8 s.publishedStage.rank, s.activeLines, s.faultedLines], .fire, .waiting⟩ s

/-! ### SUPP -/

/-- The full countdown length, in µs (R160, R161). -/
def State.countdownLength (s : State) : Nat := s.config.countdown * second

/-- SUPP runs and no release has happened: it holds the role, the configuration read is complete, and the released latch is clear (11.4,
R160, R164). -/
def State.suppReady (s : State) : Bool := s.holds .supp && s.readDone && !s.retained.releasedLatch

/-- The start conditions of R161. -/
def State.startCondition (s : State) : Bool :=
  s.fire.localStage == .alarm || (s.rcv.stage.isAlarm && s.rcv.source != s.own && !s.suppAlone)

/-- In FOLLOWING, SUPP starts a countdown when a start condition holds (R161). The held flag takes the latest HOLD reading. Where a report is due it
comes after the stage-change event (log 42). -/
def countdownStart (report : Bool) (s : State) : State :=
  if s.suppReady && !s.supp.releasePending && s.startCondition then
    let s := suppEvent (s.setSupp { s.supp with
      releasePending := true, remaining := s.countdownLength, held := !s.holdReading })
    if report then queueFireReport s else s
  else s

/-- In RELEASE_PENDING, a HOLD reading (R162). -/
def countdownHold (s : State) : State :=
  if s.suppReady && s.supp.releasePending then
    if !s.holdReading then s.setSupp { s.supp with held := true }
    else if s.supp.held then s.setSupp { s.supp with held := false, remaining := s.countdownLength }
    else s
  else s

/-- SUPP's tests at a hand-over, and at a tick in LISTENING and FAULT (R161, R162, R166). -/
def suppTests (s : State) : State :=
  if s.supp.releasePending then countdownHold s else countdownStart true s

/-- SUPP at an indicator tick: both tests in LISTENING and FAULT, the hold test in peer loss (R162, R166). -/
def suppTick (s : State) : State :=
  if s.link.state ≠ .active then suppTests s
  else if s.peerLoss then countdownHold s
  else s

/-- The countdown is cancelled: FOLLOWING, remaining time and held flag cleared (R163, R166). -/
def countdownCancel (s : State) : State :=
  suppEvent (s.setSupp { s.supp with releasePending := false, remaining := 0, held := false })

/-- The countdown expiry (R164, R165): released latch, REL_OUT, RELEASED, confirmation watch. Its FIRE_REPORT is queued whether or not a
local stage change comes by another command at the same time: changes within one command alone fall at one instant (DESIGN CHOICE,
log 33). It comes after the stage-change event (log 42). -/
def countdownExpires (s : State) : State :=
  if s.suppReady && s.supp.releasePending && !s.supp.held && s.supp.remaining == 0 then
    let s := s.setRetained { s.retained with releasedLatch := true }
    let s := s.setSupp { s.supp with releasePending := false, relPulse := some 0, watch := some 0 }
    queueFireReport (suppEvent s)
  else s

/-- COUNTDOWN_EXPIRY. -/
def execCountdownExpiry (dt : Nat) (s : State) : Host.Outcome State Fault Refusal := act dt countdownExpires s

/-- REL_OUT is released 1 s after the release (R164). -/
def releaseEnds (s : State) : State :=
  if reached releasePulseLimit s.supp.relPulse then s.setSupp { s.supp with relPulse := none } else s

/-- RELEASE_PULSE_END. -/
def execReleasePulseEnd (dt : Nat) (s : State) : Host.Outcome State Fault Refusal := act dt releaseEnds s

/-- The watch reaches 10 s without a confirmation (R165). -/
def watchEnds (s : State) : State :=
  if reached watchLimit s.supp.watch then s.setSupp { s.supp with watch := none, releaseFault := true } else s

/-- CONFIRMATION_WATCH_TIMEOUT. -/
def execConfirmationWatchTimeout (dt : Nat) (s : State) : Host.Outcome State Fault Refusal := act dt watchEnds s

/-- REL_CONF at an indicator tick (R165). -/
def watchTick (relConf : Bool) (s : State) : State :=
  if relConf && s.supp.watch.isSome then s.setSupp { s.supp with watch := none } else s

/-- SUPP yields (R166): a countdown is cancelled, REL_OUT released; the watch and the released latch stay. The FIRE_REPORT comes
after the stage-change event (log 42). -/
def suppYield (s : State) : State :=
  let wasPending := s.supp.releasePending && !s.retained.releasedLatch
  let s := s.setSupp { s.supp with releasePending := false, remaining := 0, held := false, relPulse := none }
  if wasPending then queueFireReport (suppEvent s) else s

/-! ### FIRE: lines (R149 to R154) -/

/-- One sample of a line that is not UNUSED: two-sample filter, EDGE latch, LINE_FAULT. -/
def FireLine.sample (c : LineCfg) (b : Band) (l : FireLine) : FireLine :=
  if c.type = .unused then l
  else
    let change := l.prev == some b && l.filtered != b
    { filtered := if change then b else l.filtered
      prev := some b
      latch := l.latch || (change && c.mode == .edge && b == .active)
      lineFault := l.lineFault || (change && (b == .openLoop || b == .short)) }

/-- One line at ALARM_RESET: latch and LINE_FAULT cleared when the filtered state is NORMAL (R152, R153). -/
def FireLine.reset (l : FireLine) : FireLine :=
  if l.filtered = .normal then { l with latch := false, lineFault := false } else l

/-- The HOLD drive formed again from the lines (R154). -/
def formHold (s : State) : State :=
  s.setFire { s.fire with
    holdDrive := (List.range 6).any fun i =>
      s.lineIsActive i && ((s.lineCfg i).type == .hold || (s.lineCfg i).type == .door) }

/-- Detectors that count as active (R155). -/
def State.activeDetectors (s : State) : Nat :=
  (List.range 6).countP fun i =>
    s.lineIsActive i &&
      match (s.lineCfg i).type with
      | .smoke | .heat | .gas => true
      | _ => false

/-- Some CALLPOINT line counts as active. -/
def State.activeCallpoint (s : State) : Bool :=
  (List.range 6).any fun i => s.lineIsActive i && (s.lineCfg i).type == .callpoint

/-- The coincidence condition (R156). -/
def State.coincidence (s : State) : Bool :=
  s.link.state == .active && !s.peerLoss && s.rcv.stage != .normal && s.rcv.source != s.own

/-- The local stage an evaluation gives; `latched` says that the ALARM latch still stands (R155). -/
def State.evaluateStage (s : State) (latched : Bool) : FireStage :=
  let n := s.activeDetectors
  if latched || s.activeCallpoint || decide (2 ≤ n) then .alarm
  else if n = 1 then (if s.coincidence then .alarm else .preAlarm)
  else .normal

/-- The local stage takes a value. At a change the stage-change event is raised, SUPP tests its start conditions (`test`; not at the
instant of ALARM_RESET, R163), and one FIRE_REPORT is queued with the stage the station then publishes (R158, R159, R161): a suppression
stage change that this change starts falls at the same instant and queues none of its own. Changes by two commands fall at two instants,
with no time between them too (DESIGN CHOICE, log 33). The stage-change event comes before the FIRE_REPORT, and so does what CONT does to the
outbound queue at it (DESIGN CHOICE, log 42: R158 and R159 give no order). -/
def takeLocalStage (test : Bool) (stage : FireStage) (s : State) : State :=
  if stage = s.fire.localStage then s
  else
    let s := stageEvent (s.setFire { s.fire with localStage := stage })
    queueFireReport (if test then countdownStart false s else s)

/-- FIRE samples every line, forms HOLD and evaluates the local stage (R149, R154, R155). -/
def fireSample (loops : Loops) (s : State) : State :=
  let s := s.setFire { s.fire with
    lines := (List.range 6).map fun i =>
      (s.fire.lines.getD i FireLine.initial).sample (s.lineCfg i) (loopBand (loopAt loops i)) }
  let s := formHold s
  takeLocalStage true (s.evaluateStage (s.fire.localStage == .alarm)) s

/-- FIRE at an indicator tick: samples in LISTENING and FAULT once the configuration read is complete (R149). -/
def fireTick (loops : Loops) (s : State) : State :=
  if s.link.state ≠ .active ∧ s.readDone then fireSample loops s else s

/-- FIRE at ALARM_RESET (R157): latches, LINE_FAULT, HOLD, then the stage; the ALARM latch is cleared when no detector and no call
point counts as active. -/
def fireReset (s : State) : State :=
  let s := s.setFire { s.fire with lines := s.fire.lines.map FireLine.reset }
  let s := formHold s
  let quiet := s.activeDetectors == 0 && !s.activeCallpoint
  takeLocalStage false (s.evaluateStage (s.fire.localStage == .alarm && !quiet)) s

/-- SUPP and FIRE at ALARM_RESET (R157, R163): a countdown is cancelled; one FIRE_REPORT, of the local stage change when there is one
(R159). -/
def fireSuppReset (s : State) : State :=
  let cancel := s.suppReady && s.supp.releasePending
  let stage := s.fire.localStage
  let s := fireReset (if cancel then countdownCancel s else s)
  if cancel && s.fire.localStage == stage then queueFireReport s else s

end Sys2Proof.Machine
end

