-- ==== Sys2Proof/Machine/Interconnect.lean ====
section
/-! DEFINITION. GRID (chapter 10): breaker, trips, trip records, reclose lockout. -/

namespace Sys2Proof.Machine

/-! ### Records (R183) -/

/-- A record appended to the list; a list of 8 loses its oldest first. -/
def appendRecord (r : TripRecord) (rs : List TripRecord) : List TripRecord :=
  (if rs.length < 8 then rs else rs.drop (rs.length - 7)) ++ [r]

/-- GRID appends a record with the uptime now and queues its TRIP_REPORT (R180, R182). -/
def recordTrip (cause : TripCause) (s : State) : State :=
  let up := s.retained.uptime
  queueNotice ⟨.data, broadcast, .tripReport, BitVec.ofNat 8 cause.code :: bytes32 up.toNat, .grid, .waiting⟩
    (s.setRetained { s.retained with records := appendRecord ⟨cause, up, false⟩ s.retained.records })

/-! ### Entries -/

/-- A breaker state entered: the close pulse and the close timer end (R176), and ALW sets the limits for the state (R112). -/
def setBreaker (st : BreakerState) (s : State) : State :=
  refreshLimits (s.setGrid { s.grid with state := st, closePulse := none, closeTimer := none })

/-- Entry to CLOSING (R176): the close pulse and the close timer start; CLOSED at once when BRK_AUX reads closed. -/
def enterClosing (s : State) : State :=
  if s.grid.brkAux then setBreaker .closed s
  else
    let s := setBreaker .closing s
    s.setGrid { s.grid with closePulse := some 0, closeTimer := some 0 }

/-- The close test of RECONNECT_WAIT (R175). -/
def applyCloseTest (s : State) : State :=
  if s.grid.state = .reconnectWait ∧ s.closeTest then enterClosing s else s

/-- Entry to OPEN (R175, R184): RECLOSE_LOCKOUT with three or more lockout records; otherwise OPEN, and on to RECONNECT_WAIT with its close test
when close-requested is set. OPEN passed through like that does not clear GRID's in-operation flag (DESIGN CHOICE, log 34). -/
def enterOpen (s : State) : State :=
  if 3 ≤ s.retained.lockoutRecords then
    let s := setBreaker .recloseLockout s
    s.setGrid { s.grid with closeRequested := false }
  else if s.grid.closeRequested then applyCloseTest (setBreaker .reconnectWait s)
  else setBreaker .brkOpen s

/-- Entry to BREAKER_FAULT (R181): BRK_TRIP follows BRK_AUX there. -/
def enterBreakerFault (s : State) : State :=
  let s := setBreaker .breakerFault s
  s.setGrid { s.grid with tripTimer := none }

/-! ### Trips (R178 to R180) -/

/-- The causes that keep close-requested (table of R180, log 28). -/
def TripCause.keepsRequest : TripCause → Bool
  | .gridLoss | .permitLoss => true
  | _ => false

/-- A trip completes (R180); `confirmed` says that BRK_AUX reads open. -/
def completeTrip (cause : TripCause) (confirmed : Bool) (s : State) : State :=
  let s := recordTrip cause s
  let s := s.setGrid { s.grid with
    closeRequested := s.grid.closeRequested && cause.keepsRequest
    reconnect := if s.grid.gridOk then some 0 else none
    tripCause := none }
  if confirmed then enterOpen s else enterBreakerFault s

/-- A trip starts (R178, R179): TRIPPING, the trip pulse and timer; it completes at once when BRK_AUX reads open. -/
def startTrip (cause : TripCause) (s : State) : State :=
  let s := setBreaker .tripping s
  let s := s.setGrid { s.grid with tripTimer := some 0, tripCause := some cause }
  if s.grid.brkAux then s else completeTrip cause true s

/-- CLOSING or CLOSED. -/
def BreakerState.engaged : BreakerState → Bool
  | .closing | .closed => true
  | _ => false

/-! ### Hand-over, link fault, start, yield -/

/-- The counts at a hand-over (R170, R172). -/
def gridCounts (s : State) : State :=
  s.setGrid { s.grid with
    presentCount := bump 2 s.grid.gridOk s.grid.presentCount
    permitCount := bump 5 s.rcv.permit s.grid.permitCount }

/-- The trip a hand-over causes in CLOSING and CLOSED, rows of R178 in order. -/
def State.handOverTrip (s : State) : Option TripCause :=
  if s.rcv.stage.isAlarm then some .fire
  else if !s.rcv.permit || s.rcv.stage == .preAlarm then some .permitLoss
  else none

/-- GRID at a hand-over (R170, R172, R175, R178). -/
def gridHandOver (s : State) : State :=
  if s.grid.running then
    let s := gridCounts s
    if s.grid.state.engaged then
      match s.handOverTrip with
      | some cause => startTrip cause s
      | none => s
    else applyCloseTest s
  else s

/-- GRID at the link-fault event (R172, R178, R185). -/
def gridLinkFault (s : State) : State :=
  if s.grid.running then
    let s := s.setGrid { s.grid with permitCount := 0 }
    if s.grid.state.engaged then startTrip .permitLoss s else s
  else s

/-- GRID starts (R168, R169, R171, R186). -/
def gridStart (pins : GridPins) (s : State) : State :=
  if s.holds .grid then
    let s := s.setGrid { s.grid with
      running := true, gridOk := pins.gridOk, brkAux := pins.brkAux, pcsReady := pins.pcsReady
      gridOkAge := 0, brkAuxAge := 0, pcsReadyAge := 0
      reconnect := if pins.gridOk then some 0 else none }
    if pins.brkAux then startTrip .restart s else enterOpen s
  else s

/-- GRID yields (R185): it does not run, its outputs are inactive, and the limits are 0/0 (R112). -/
def gridYield (s : State) : State :=
  let s := setBreaker .brkOpen s
  refreshLimits (s.setGrid { s.grid with running := false, tripTimer := none, tripCause := none, reconnect := none })

/-! ### Inputs: a level that cannot have stood its filter time since the filtered one was taken changes nothing (R169) -/

/-- A filtered GRID_OK rise (R171). -/
def gridOkRises (s : State) : State :=
  if s.grid.running && !s.grid.gridOk && decide (gridOkFilter ≤ s.grid.gridOkAge) then
    s.setGrid { s.grid with gridOk := true, gridOkAge := 0, reconnect := some 0 }
  else s

/-- GRID_OK_RISE. -/
def execGridOkRise (dt : Nat) (s : State) : Host.Outcome State Fault Refusal := act dt gridOkRises s

/-- A filtered GRID_OK fall (R170, R171, R178). -/
def gridOkFalls (s : State) : State :=
  if s.grid.running && s.grid.gridOk && decide (gridOkFilter ≤ s.grid.gridOkAge) then
    let s := s.setGrid { s.grid with gridOk := false, gridOkAge := 0, presentCount := 0, reconnect := none }
    if s.grid.state.engaged then startTrip .gridLoss s else s
  else s

/-- GRID_OK_FALL. -/
def execGridOkFall (dt : Nat) (s : State) : Host.Outcome State Fault Refusal := act dt gridOkFalls s

/-- The reconnect timer reaches the delay (R171, R175): the close test is applied, and it reads the timer itself. -/
def reconnectReached (s : State) : State := if s.grid.running then applyCloseTest s else s

/-- RECONNECT_DELAY_REACHED. -/
def execReconnectDelayReached (dt : Nat) (s : State) : Host.Outcome State Fault Refusal := act dt reconnectReached s

/-- A filtered BRK_AUX closure (R176, R181, R182). -/
def brkCloses (s : State) : State :=
  if s.grid.running && !s.grid.brkAux && decide (brkAuxFilter ≤ s.grid.brkAuxAge) then
    let s := s.setGrid { s.grid with brkAux := true, brkAuxAge := 0 }
    match s.grid.state with
    | .closing => setBreaker .closed s
    | .brkOpen | .reconnectWait => startTrip .auxMismatch s
    | .recloseLockout => recordTrip .auxMismatch s
    | .closed | .tripping | .breakerFault => s
  else s

/-- BRK_AUX_CLOSE. -/
def execBrkAuxClose (dt : Nat) (s : State) : Host.Outcome State Fault Refusal := act dt brkCloses s

/-- A filtered BRK_AUX opening (R177, R179, R181). -/
def brkOpens (s : State) : State :=
  if s.grid.running && s.grid.brkAux && decide (brkAuxFilter ≤ s.grid.brkAuxAge) then
    let s := s.setGrid { s.grid with brkAux := false, brkAuxAge := 0 }
    match s.grid.state with
    | .tripping => completeTrip (s.grid.tripCause.getD .auxMismatch) true s
    | .closed => completeTrip .auxMismatch true s
    | .brkOpen | .reconnectWait | .closing | .breakerFault | .recloseLockout => s
  else s

/-- BRK_AUX_OPEN. -/
def execBrkAuxOpen (dt : Nat) (s : State) : Host.Outcome State Fault Refusal := act dt brkOpens s

/-- A filtered PCS_READY change (R175, R177): a rise applies the close test; PCS_EN follows the level in CLOSED. -/
def pcsChanges (ready : Bool) (s : State) : State :=
  if s.grid.running && ready != s.grid.pcsReady && decide (pcsReadyFilter ≤ s.grid.pcsReadyAge) then
    let s := s.setGrid { s.grid with pcsReady := ready, pcsReadyAge := 0 }
    if ready then applyCloseTest s else s
  else s

/-- PCS_READY_CHANGE. -/
def execPcsReadyChange (dt : Nat) (ready : Bool) (s : State) : Host.Outcome State Fault Refusal := act dt (pcsChanges ready) s

/-! ### Timers -/

/-- BRK_CLOSE is released 200 ms after entry to CLOSING (R176). -/
def closePulseEnds (s : State) : State :=
  if reached closePulseLimit s.grid.closePulse then s.setGrid { s.grid with closePulse := none } else s

/-- BRK_CLOSE_PULSE_END. -/
def execBrkClosePulseEnd (dt : Nat) (s : State) : Host.Outcome State Fault Refusal := act dt closePulseEnds s

/-- The close timer expires with BRK_AUX open (R176): close-requested cleared, BREAKER_FAULT. -/
def gridCloseExpires (s : State) : State :=
  if s.grid.running && s.grid.state == .closing && reached gridCloseLimit s.grid.closeTimer then
    enterBreakerFault (s.setGrid { s.grid with closeRequested := false })
  else s

/-- GRID_CLOSE_TIMER_EXPIRY. -/
def execGridCloseTimerExpiry (dt : Nat) (s : State) : Host.Outcome State Fault Refusal := act dt gridCloseExpires s

/-- The trip timer expires (R179): the pulse ends; in TRIPPING with BRK_AUX closed the trip completes without confirmation. -/
def tripExpires (s : State) : State :=
  if s.grid.running && reached tripLimit s.grid.tripTimer then
    let s := s.setGrid { s.grid with tripTimer := none }
    if s.grid.state = .tripping then completeTrip (s.grid.tripCause.getD .auxMismatch) (!s.grid.brkAux) s else s
  else s

/-- TRIP_TIMER_EXPIRY. -/
def execTripTimerExpiry (dt : Nat) (s : State) : Host.Outcome State Fault Refusal := act dt tripExpires s

/-! ### Commands (R173, R184) -/

/-- CLOSE_REQUEST accepted (R173, R175). -/
def closeRequestTaken (s : State) : State :=
  let was := s.grid.state
  let s := s.setGrid { s.grid with closeRequested := true }
  if was = .brkOpen then applyCloseTest (setBreaker .reconnectWait s) else s

/-- OPEN_REQUEST accepted (R173, R181). -/
def openRequestTaken (s : State) : State :=
  let s := s.setGrid { s.grid with closeRequested := false }
  match s.grid.state with
  | .reconnectWait => enterOpen s
  | .closing | .closed => startTrip .openRequest s
  | .breakerFault => if s.grid.brkAux then s else enterOpen s
  | .brkOpen | .tripping | .recloseLockout => s

/-- LOCKOUT_CLEAR accepted (R184). -/
def lockoutClearTaken (s : State) : State :=
  let s := s.setRetained { s.retained with records := s.retained.records.map fun r => { r with acknowledged := true } }
  if s.grid.state = .recloseLockout then
    if s.grid.brkAux then enterBreakerFault s else enterOpen s
  else s

end Sys2Proof.Machine
end

