-- ==== Sys2Proof/Machine/Measure.lean ====
section
/-! DEFINITION. MEAS (chapter 4): scan start, conversions, scan completion and the order in which its consumers take it (R74). -/

namespace Sys2Proof.Machine

/-- Index of the rack current and of the DC bus among the 26 channels (R62). -/
def currentChannel : Nat := 24
def busChannel : Nat := 25

/-! ### Scan start (R65, R66) -/

/-- A scan starts: CELL switches every bleed driver off, and no channel is converted yet. -/
def scanStart (s : State) : State :=
  (bleedOff s).setMeas { s.meas with scan := some ⟨0, 0, List.replicate 26 0⟩ }

/-- The scan timer has run 100 ms: the next scan starts, and the timer goes on in its period (R65). -/
def scanStarts (s : State) : State :=
  if reached scanPeriod s.meas.scanTimer then
    scanStart (s.setMeas { s.meas with scanTimer := s.meas.scanTimer.map (· - scanPeriod) })
  else s

/-- SCAN_START. -/
def execScanStart (dt : Nat) (s : State) : Host.Outcome State Fault Refusal := act dt scanStarts s

/-! ### Conversions (R66, R68 to R71, R77) -/

def TempChan.initial : TempChan := ⟨0, none, .unformed⟩

/-- The value a channel's conversion gives: calibrated, or, for a temperature whose code is not good, the last good value, or −400
without one (R69, R71). -/
def State.valueOf (s : State) (ch : Nat) (raw : Int) : Int :=
  let v := calibrate (s.config.calib.getD ch ⟨16384, 0⟩) ch raw
  if 16 ≤ ch ∧ ch < 24 ∧ !goodTempCode raw then ((s.meas.temps.getD (ch - 16) TempChan.initial).lastGood).getD (-400) else v

/-- When conversion `k` of a scan, counted from 0, ends: 2 ms of settling, then 0.5 ms each (R66). -/
def conversionEnd (k : Nat) : Nat := scanSettle + conversionTime * (k + 1)

/-- The next conversion ends: its raw code is kept for the scan and its value written into the write page. -/
def conversionEnds (code : Int) (s : State) : State :=
  match s.meas.scan with
  | none => s
  | some scan =>
    match (channelsInUse s.config)[scan.done]? with
    | none => s
    | some ch =>
      if conversionEnd scan.done ≤ scan.time then
        let raw := rawCode ch code
        let page := s.meas.writePage
        let m := s.meas.setWritePage { page with values := page.values.set ch (s.valueOf ch raw) }
        s.setMeas { m with scan := some { scan with done := scan.done + 1, raws := scan.raws.set ch raw } }
      else s

/-- CONVERSION_END. -/
def execConversionEnd (dt : Nat) (code : Int) (s : State) : Host.Outcome State Fault Refusal := act dt (conversionEnds code) s

/-! ### Scan completion (R70 to R80) -/

/-- A temperature channel's count, last good value and state after a scan (R70). -/
def TempChan.settle (k : Calib) (ch : Nat) (raw : Int) (t : TempChan) : TempChan :=
  if goodTempCode raw then { faultCount := 0, lastGood := some (calibrate k ch raw), state := .good }
  else
    let n := min 51 (t.faultCount + 1)
    { t with faultCount := n, state := if n ≤ 50 ∧ t.lastGood.isSome then .held else .expired }

/-- The temperature channels after a scan; a channel not in use has no fault state (R64). -/
def settleTemps (c : Config) (raws : List Int) (temps : List TempChan) : List TempChan :=
  (List.range 8).map fun k =>
    let t := temps.getD k TempChan.initial
    if c.tempSet.getLsbD k then t.settle (c.calib.getD (16 + k) ⟨16384, 0⟩) (16 + k) (raws.getD (16 + k) 0) else t

/-- The smallest and the largest of a list, or a default for none. -/
def leastOf (dflt : Int) : List Int → Int
  | [] => dflt
  | x :: xs => xs.foldl min x
def greatestOf (dflt : Int) : List Int → Int
  | [] => dflt
  | x :: xs => xs.foldl max x

/-- The values of a scan by channel, 0 where a channel is not in use (R64, R69, R71). -/
def State.scanValues (s : State) (raws : List Int) : List Int :=
  (List.range 26).map fun ch => if channelInUse s.config ch then s.valueOf ch (raws.getD ch 0) else 0

/-- The rack summary of a scan (R75, R76). -/
def summaryOf (c : Config) (values : List Int) (temps : List TempChan) : Summary :=
  let cells := (List.range c.cellCount).map fun i => values.getD i 0
  let stateOf (k : Nat) : TempState := (temps.getD k TempChan.initial).state
  let inUse := (List.range 8).filter fun k => c.tempSet.getLsbD k
  let shown := (inUse.filter fun k => stateOf k == .good || stateOf k == .held).map fun k => values.getD (16 + k) 0
  { vmin := leastOf 0 cells
    vmax := greatestOf 0 cells
    vsum := cells.foldl (· + ·) 0
    tmin := leastOf (-400) shown
    tmax := greatestOf 1250 shown
    expired := inUse.countP fun k => stateOf k == .expired
    current := values.getD currentChannel 0
    vbus := values.getD busChannel 0
    valid := true }

/-- Open-wire marks of a scan (R73). -/
def openMarksOf (c : Config) (raws : List Int) : List Bool :=
  (List.range 16).map fun i => decide (i < c.cellCount) && decide (raws.getD i 0 < c.openWire)

/-- The pages swap at a completion while the hold is off (R78). -/
def Meas.swap (m : Meas) : Meas := if m.pageHold then m else { m with readOne := !m.readOne }

/-- MEAS at a scan completion: fault states, SENSOR_FAULT, page, scan number, summary, result set, swap. -/
def measComplete (scan : Scan) (s : State) : State :=
  let c := s.config
  let values := s.scanValues scan.raws
  let temps := settleTemps c scan.raws s.meas.temps
  let number := s.meas.scanNumber + 1
  let faulted := (List.range 8).any fun k => c.tempSet.getLsbD k &&
    ((temps.getD k TempChan.initial).state == .held || (temps.getD k TempChan.initial).state == .expired)
  let m := (s.meas.setWritePage ⟨values, number⟩).swap
  s.setMeas { m with
    scan := none
    temps := temps
    sensorFault := s.meas.sensorFault || faulted
    summary := summaryOf c values temps
    result := ⟨values, openMarksOf c scan.raws⟩
    scanNumber := number }

/-- The consumers take a completion: CELL first, then ALW, THERM and CONT (R74), and PLANT after THERM where it stands in for the
hand-over (R146). -/
def consumers (s : State) : State :=
  let t := cellScan s
  contScan (openRequested s t) (plantScan (thermScan (alwScan t)))

/-- The scan is complete when every channel in use has been converted. -/
def scanCompletes (s : State) : State :=
  match s.meas.scan with
  | none => s
  | some scan => if scan.done = (channelsInUse s.config).length then consumers (measComplete scan s) else s

/-- SCAN_COMPLETION. -/
def execScanCompletion (dt : Nat) (s : State) : Host.Outcome State Fault Refusal := act dt scanCompletes s

/-- MEAS at ALARM_RESET (R72). -/
def measReset (s : State) : State :=
  if s.anyTempFault then s else s.setMeas { s.meas with sensorFault := false }

end Sys2Proof.Machine
end

