-- ==== Sys2Proof/Machine/Link.lean ====
section
/-! DEFINITION. LINK's frames (chapters 1 to 3): the received-field record, the membership monitor, hand-overs, the link states,
the field area, the notice slot and the events of LSYNC. -/

namespace Sys2Proof.Machine

/-! ### The received-field record (R31 to R34) -/

/-- The record after a complete frame; `counter` is the value of this hand-over. A filter pairs with the previous readings only when
they carry the value one below. -/
def Rcv.complete (counter : BitVec 32) (f : FieldReadings) (r : Rcv) : Rcv :=
  let (stage, source) := decodeFire f.fire
  let paired (p : PrevReadings) : Bool := p.counter + 1 == counter
  let filtered := match r.prev with
    | some p => if paired p && p.stage == stage then (stage, source) else (r.stage, r.source)
    | none => (r.stage, r.source)
  { presence := f.presence, closed := f.closed, permit := f.permit, hold := f.hold, chg := f.chg, dis := f.dis
    demand := f.demand
    stage := filtered.1, source := filtered.2
    gridPres := match r.prev with
      | some p => if paired p && p.gridPres == !f.gridPres then !f.gridPres else r.gridPres
      | none => r.gridPres
    degraded := match r.prev with
      | some p => if paired p && p.degraded == !f.degraded then !f.degraded else r.degraded
      | none => r.degraded
    prev := some ⟨stage, !f.gridPres, !f.degraded, counter⟩ }

/-- The record after a missing frame (R32). -/
def Rcv.missing (r : Rcv) : Rcv :=
  { r with presence := 0, closed := 0, permit := false, hold := false, chg := 255, dis := 255, prev := none }

/-- A frame as it is handed over (R6): complete with its readings, or missing. -/
def Rcv.handOver (counter : BitVec 32) (frame : Option FieldReadings) (r : Rcv) : Rcv :=
  match frame with
  | some f => r.complete counter f
  | none => r.missing

/-! ### The membership monitor (R36 to R39) -/

/-- The present count of a member after a hand-over. -/
def presentAfter (seen : Bool) (n : Nat) : Nat := bump 3 seen n

/-- The absent count of a member after a hand-over. -/
def absentAfter (seen : Bool) (n : Nat) : Nat := bump 255 (!seen) n

/-- The monitor takes a hand-over: the counts of every other member (R37), and STRANGER at a complete frame (R39). The record's
PRESENCE is empty after a missing frame. -/
def monitorTake (complete : Bool) (s : State) : State :=
  let m := s.monitor
  let member (a : Nat) : Bool := s.config.members.getLsbD a && a != s.own
  let count (f : Bool → Nat → Nat) (l : List Nat) : List Nat :=
    (List.range 32).map fun a => if member a then f (s.rcv.presence.getLsbD a) (l.getD a 0) else l.getD a 0
  s.setMonitor {
    present := count presentAfter m.present
    absent := count absentAfter m.absent
    stranger := m.stranger || (complete && (s.rcv.presence &&& ~~~s.config.members) != 0) }

/-! ### Hand-over (R6, R17, R31) -/

/-- The hold-off count rises at the hand-over of a complete frame whose slot the station did not win (R50). That takes in a slot which a frame
arrival abandons before the end of slot bit 6, when nobody has won it yet (DESIGN CHOICE, log 45: the slots that R50 names are idle ones and
those another station has won). -/
def holdOffRise (complete : Bool) (s : State) : State :=
  if complete && !s.link.slotWon then s.setMail { s.mail with holdOff := min 2 (s.mail.holdOff + 1) } else s

/-- LINK's own part of a hand-over: counter, record, monitor, hold-off count. -/
def linkHandOver (frame : Option FieldReadings) (s : State) : State :=
  let counter := s.link.frameCounter + 1
  let s := (s.setLink { s.link with frameCounter := counter }).setRcv (s.rcv.handOver counter frame)
  holdOffRise frame.isSome (monitorTake frame.isSome s)

/-- The stage-change event of LINK, when the filtered container stage has changed from `before` (R31). -/
def linkStageEvent (before : FireStage) (s : State) : State := if s.rcv.stage = before then s else stageEvent s

/-- The blocks take a hand-over in the order of R31; at its end CFG hands over claims that were dropped (R192). -/
def blocksTake (pins : HandOverPins) (s : State) : State :=
  let s := fireSample pins.loops s
  let s := plantHandOver pins.chFault s
  let s := refreshLimits s
  let s := contEvaluate s
  let s := gridHandOver s
  reclaimDropped (suppTests s)

/-- A hand-over: a complete frame with its readings, or a missing one. LINK's stage-change event comes after the membership monitor and before
FIRE takes the hand-over (DESIGN CHOICE, log 29: R31 does not place it among them). -/
def handOver (frame : Option FieldReadings) (pins : HandOverPins) (s : State) : State :=
  blocksTake pins (linkStageEvent s.rcv.stage (linkHandOver frame s))

/-! ### Link states (R9 to R12) -/

/-- Entry to FAULT (R12): lines released, timers and sampling stopped, queues emptied, readout ended, and the link-fault event handed
to CONT (R128), GRID (R185) and ALW (R112). FIRE, SUPP and PLANT read the link state where they act. -/
def enterFault (reason : FaultReason) (s : State) : State :=
  let s := s.setLink { s.link with
    state := .fault, faultReason := some reason, phase := .none, lsyncDriven := false, pulse := none, silence := none
    frameTimer := none, frameTime := none, lowTime := none, missTimer := none, echoWait := false, fixed := [], fields := none
    slotRoom := [], arb := none }
  let s := endReadout (s.setMail { s.mail with outbound := [], inbound := [] })
  refreshLimits (gridLinkFault (contEvaluate s))

/-- One claim for a role held (R192). -/
def claimHeldRole (r : Role) (s : State) : State := if s.holds r then queueRoleClaim r s else s

/-- Entry to ACTIVE (R10, R50, R192): drive-fault count 0, hold-off count 2, one claim for each role held. -/
def enterActive (s : State) : State :=
  let s := s.setLink { s.link with
    state := .active, silence := none, driveFaults := 0, droveDominant := false, frameFaulted := false, unechoed := false
    echoWait := false, mutePulse := false, lateMute := false, fixed := [], fields := none, slotRoom := [], arb := none
    slotWon := false, phase := .none, frameTime := none
    missTimer := if s.link.lsyncLow then some 0 else none }
  let s := s.setMail { s.mail with holdOff := 2 }
  claimHeldRole .supp (claimHeldRole .grid (claimHeldRole .plant s))

/-- A station in LISTENING may enter ACTIVE: its read is complete and its address valid (R10). -/
def State.mayActivate (s : State) : Bool := s.readDone && !s.strapInvalid

/-! ### Expiry of the frame timer (R7, R14) -/

/-- What an expiry finds on LSYNC: `alreadyLow` whenever the line reads low. -/
def Link.met (l : Link) (line : ExpiryLine) : ExpiryLine := if l.lsyncLow then .alreadyLow else line

/-- An unechoed expiry at the end of its 2 µs (R14): it makes the frame a drive-fault frame and adds one to the count, unless the frame is
one already and no unechoed expiry came before it since the last frame arrival. -/
def unechoedExpiry (s : State) : State :=
  let n := if !s.link.frameFaulted || s.link.unechoed then s.link.driveFaults + 1 else s.link.driveFaults
  let s := s.setLink { s.link with driveFaults := n, frameFaulted := true, unechoed := true, echoWait := false }
  if 3 ≤ n then enterFault .driveFault s else s

/-- The 2 µs in which an own pulse may be recognized have passed without a fall (R14, log 39). -/
def echoEnds (s : State) : State :=
  if s.link.state = .active ∧ s.link.echoWait ∧ reached recognition s.link.frameTimer then unechoedExpiry s else s

/-- The timer restarts and the 40 µs pulse is driven (R7). Where the pulse meets a high line and is not echoed, the count waits for the end
of the 2 µs; a pulse into a low line changes no count (R14). -/
def frameTimerExpires (line : ExpiryLine) (s : State) : State :=
  let met := s.link.met line
  let s := s.setLink { s.link with
    frameTimer := some 0, lsyncDriven := true, pulse := some 0, echoWait := met == .unechoed
    mutePulse := s.link.mutePulse || s.link.lateMute, lateMute := met == .alreadyLow }
  if met = .echoed then s.setLink { s.link with lsyncLow := true, lowTime := some 0, missTimer := some 0 } else s

/-- The expiry in ACTIVE; an unechoed pulse before it is counted first. -/
def ownExpiry (line : ExpiryLine) (s : State) : State :=
  let s := echoEnds s
  if s.link.state = .active ∧ reached (framePeriod s.own) s.link.frameTimer then frameTimerExpires line s else s

/-- FRAME_TIMER_EXPIRY. Given again 2 µs after an expiry whose pulse was not echoed, it is the instant at which that expiry counts
(R14, log 39). -/
def execFrameTimerExpiry (dt : Nat) (line : ExpiryLine) (s : State) : Host.Outcome State Fault Refusal := act dt (ownExpiry line) s

/-- The silence timer reaches 30 ms (R10): ACTIVE, and the frame timer expires at once. -/
def silenceEnds (line : ExpiryLine) (s : State) : State :=
  if s.link.state = .listening ∧ s.mayActivate ∧ reached silenceLimit s.link.silence then
    frameTimerExpires line (enterActive s)
  else s

/-- SILENCE_LIMIT. -/
def execSilenceLimit (dt : Nat) (line : ExpiryLine) (s : State) : Host.Outcome State Fault Refusal := act dt (silenceEnds line) s

/-! ### The notice slot (R41 to R50) -/

/-- The marks of a slot's candidate: the head contends when it is SAFETY or the hold-off count is 2 (R42). -/
def Mail.contend (m : Mail) : Mail :=
  match m.outbound with
  | n :: rest =>
    if n.priority = .safety ∨ m.holdOff = 2 then { m with outbound := { n with mark := .contending } :: rest } else m
  | [] => m

/-- The candidate has lost: it stays in its place, and a withdrawal that waited for slot bit 6 takes effect (R43, R53). -/
def Mail.lost (m : Mail) : Mail :=
  { m with outbound := (m.outbound.filter fun n => n.mark != .withdrawn).map fun n =>
      if n.mark = .contending then { n with mark := .lost } else n }

/-- The candidate has won and leaves the queue; a win of CONTROL, DATA or BULK sets the hold-off count to 0 (R44). -/
def Mail.won (n : OutNotice) (m : Mail) : Mail :=
  { m with outbound := m.outbound.filter fun x => x.mark == .waiting
           holdOff := if n.priority = .safety then m.holdOff else 0 }

/-- The queue at the end of slot bit 6: `sent` is the own notice that has won. -/
def Mail.arbitrated (sent : Option OutNotice) (m : Mail) : Mail :=
  match sent with
  | some n => m.won n
  | none => m.lost

/-- The slot is over: its candidate, if it is still there, is a notice like the others. -/
def Mail.release (m : Mail) : Mail := { m with outbound := m.outbound.map fun n => { n with mark := .waiting } }

/-- What a run through the slot leaves in LINK's items: those of R13 and the bits driven. -/
def Link.takeSlot (a : BitAcc) (sent : Option OutNotice) (l : Link) : Link :=
  { l with driveFaults := a.faults, frameFaulted := a.marked, droveDominant := a.drove, slotDrive := a.driven
           slotWon := l.slotWon || sent.isSome }

/-- The end of slot bit 6 (R43, R44, R53): the winner's notice leaves the queue, a loser that has been withdrawn is removed. -/
def arbitrationEnds (bits : List LineBit) (s : State) : State :=
  match s.link.arb with
  | some _ => s
  | none =>
    let (a, sent) := arbitrate s bits
    (s.setLink { s.link.takeSlot a sent with arb := some ⟨a.seen, sent⟩ }).setMail (s.mail.arbitrated sent)

/-- What the run through the slot leaves in LINK, up to the outcome; an arbitration that has not been taken before is taken here. -/
def slotTake (r : SlotRun) (s : State) : State :=
  let m := if s.link.arb.isSome then s.mail else s.mail.arbitrated r.sent
  (s.setLink { s.link.takeSlot r.acc r.sent with arb := none }).setMail m.release

/-- The readout's segment has its outcome (R62, R63). -/
def segmentOutcome (delivered : Bool) (s : State) : State :=
  match s.mail.readout with
  | some r => if delivered ∧ r.next < 8 then queueSegment r.requester (r.next + 1) s else endReadout s
  | none => s

/-- The winner takes the outcome of its notice (R49). -/
def noticeOutcome (n : OutNotice) (ack : Bool) (s : State) : State :=
  let delivered := n.dest == broadcast || ack
  match n.kind, n.owner with
  | .snapshotSegment, _ => segmentOutcome delivered s
  | .deadBusClaim, .cont k => claimSent k s
  | _, _ => if delivered then s else s.setMail { s.mail with noticeUndelivered := true }

/-- A receiver enqueues an accepted notice at the slot end (R47, R48). -/
def enqueueNotice (n : InNotice) (s : State) : State :=
  if s.mail.inbound.length < inboundCapacity then s.setMail { s.mail with inbound := s.mail.inbound ++ [n] }
  else if n.dest = broadcast then s.setMail { s.mail with inboundOverrun := true }
  else s

/-- The slot end (R41): outcome at the winner, enqueuing at a receiver, IDLE. -/
def slotEnds (r : SlotRun) (s : State) : State :=
  let s := slotTake r s
  let s := s.setLink { s.link with phase := .idle, slotRoom := [] }
  let s := match r.sent with
    | some n => noticeOutcome n r.ack s
    | none => s
  match r.heard with
  | some n => enqueueNotice n s
  | none => s

/-- How many bits have been sampled of a part of the frame that starts at `start` and has `most` bits: bit k once its middle, 8k + 4 µs after
that start, has come (R5). -/
def Link.bitsSampled (start most : Nat) (l : Link) : Nat :=
  match l.frameTime with
  | some n => min most ((n + 4 - start) / bitTime)
  | none => 0

/-- The line bits sampled so far in such a part: quiet where the operand gives none (log 22), and none whose middle has not come. -/
def Link.lineSoFar (start most : Nat) (ldata : List LineBit) (l : Link) : List LineBit := padLine (l.bitsSampled start most) ldata

/-- The sample of the last bit of a run has been taken: the middle of its bit period, in a part of the frame that starts at `start` (R5). -/
def sampled (start : Nat) (a : BitAcc) (l : Link) : Bool := reached (start + bitTime * a.seen.length - 4) l.frameTime

/-- A slot that has not ended yet: from the end of slot bit 6 on its arbitration is taken (R44, R53). -/
def slotGoesOn (bits : List LineBit) (s : State) : State :=
  if reached (fieldsEnd + 7 * bitTime) s.link.frameTime then arbitrationEnds bits s else s

/-- The slot runs to its end, or to the bit at which it finds a fault (R12, R13, R45). -/
def slotRuns (ldata : List LineBit) (s : State) : State :=
  if s.link.state = .active ∧ s.link.phase = .slot then
    let bits := padLine slotBits ldata
    let r := runSlot s bits
    match r.acc.stop with
    | some reason => if sampled fieldsEnd r.acc s.link then enterFault reason (slotTake r s) else slotGoesOn bits s
    | none => if reached (fieldsEnd + bitTime * r.ended) s.link.frameTime then slotEnds r s else slotGoesOn bits s
  else s

/-- NOTICE_SLOT_END. Given before the slot's end, it takes what the end of slot bit 6 settles (log 40); each time its bits are those of the
slot from slot bit 0 on. -/
def execNoticeSlotEnd (dt : Nat) (ldata : List LineBit) (s : State) : Host.Outcome State Fault Refusal := act dt (slotRuns ldata) s

/-- The run through a slot that a frame arrival cuts off, over the bits sampled so far (R5): before the end of slot bit 6 nobody has won it
(R44). -/
def slotCut (ldata : List LineBit) (s : State) : SlotRun :=
  let r := runSlot s (s.link.lineSoFar fieldsEnd slotBits ldata)
  if s.link.arb.isSome || reached (fieldsEnd + 7 * bitTime) s.link.frameTime then r else { r with sent := none }

/-- A slot abandoned by a frame arrival (R6, R47 to R49): nothing is enqueued, and a sender takes the outcome of an ACK sampled
recessive. -/
def slotAbandoned (ldata : List LineBit) (s : State) : State :=
  let r := slotCut ldata s
  let s := slotTake r s
  match r.acc.stop, r.sent with
  | some reason, _ => enterFault reason s
  | none, some n => noticeOutcome n false s
  | none, none => s

/-! ### The field area (R5, R13, R19 to R30) -/

/-- A run over the bits of the field area at hand, with the contributions as each was fixed at its own start (R5, R19). -/
def State.runFields (s : State) (bits : List LineBit) : BitAcc := sendFields s.link.fixed bits s.link.bitAcc

/-- What a run over the field area leaves in LINK: the drive-fault items and the bits driven. -/
def fieldsTake (a : BitAcc) (s : State) : State :=
  s.setLink { s.link with
    driveFaults := a.faults, frameFaulted := a.marked, droveDominant := a.drove, fieldDrive := a.driven }

/-- The field area ends at 944 µs: its readings are kept, and slot bit 0 begins with LINK's choice of a candidate (R42). -/
def fieldsEnds (a : BitAcc) (s : State) : State :=
  let s := fieldsTake a s
  (s.setLink { s.link with
    phase := .slot, fixed := [], fields := some (readFields a.seen), slotRoom := [], arb := none, slotDrive := [] }).setMail s.mail.contend

/-- The field area runs to its end, or to the bit at which it finds a fault (R12, R13). -/
def fieldsRun (ldata : List LineBit) (s : State) : State :=
  if s.link.state = .active ∧ s.link.phase = .fields then
    let a := s.runFields (padLine areaBits ldata)
    match a.stop with
    | some reason => if sampled syncEnd a s.link then enterFault reason (fieldsTake a s) else s
    | none => if reached fieldsEnd s.link.frameTime then fieldsEnds a s else s
  else s

/-- FIELD_AREA_END. -/
def execFieldAreaEnd (dt : Nat) (ldata : List LineBit) (s : State) : Host.Outcome State Fault Refusal := act dt (fieldsRun ldata) s

/-- A field area cut off by a frame arrival: the bits sampled so far count for R13. The bit in progress, where it has begun and has not been
sampled, counts as not driven (DESIGN CHOICE, log 47). -/
def fieldsCut (ldata : List LineBit) (s : State) : State :=
  let a := s.runFields (s.link.lineSoFar syncEnd areaBits ldata)
  let s := fieldsTake a s
  match a.stop with
  | some reason => enterFault reason s
  | none => s

/-! ### Frame arrivals (R4, R6) -/

/-- The bits of the part of the frame in progress, FIELDS or SLOT, up to those whose middle has come (R5). -/
def frameTail (ldata : List LineBit) (s : State) : State :=
  match s.link.phase with
  | .fields => fieldsCut ldata s
  | .slot => slotAbandoned ldata s
  | _ => s

/-- The latest own pulse met a low line and belongs to the frame that a fall now recognized opens: it began at the fall's instant or after it
(R3, R8, log 38). -/
def Link.newMute (l : Link) : Bool :=
  l.lateMute &&
    match l.pulse with
    | some p => decide (p ≤ recognition)
    | none => false

/-- An own pulse of the frame that ends was not echoed (R13, R14). -/
def Link.unheard (l : Link) : Bool := l.echoWait || l.mutePulse || (l.lateMute && !l.newMute)

/-- The drive-fault count at the frame arrival that ends a frame (R13). -/
def driveFaultJudge (s : State) : State :=
  if s.link.droveDominant && !s.link.frameFaulted && !s.link.unheard then s.setLink { s.link with driveFaults := 0 } else s

/-- What the ended frame is handed over as (R6); `none` is nothing. -/
def Link.endedAs (l : Link) : Option (Option FieldReadings) :=
  match l.phase with
  | .slot | .idle => some l.fields
  | .void => if l.missTaken then none else some none
  | .fields | .sync | .none => some none

/-- A new frame begins in phase SYNC, measured from the fall's instant, 2 µs before its recognition (R3, R4). -/
def beginFrame (s : State) : State :=
  s.setLink { s.link with
    phase := .sync, frameTimer := some recognition, frameTime := some recognition, lowTime := some recognition
    missTimer := some recognition, lsyncLow := true, lineStuck := false, missTaken := false, droveDominant := false
    frameFaulted := false, unechoed := false, echoWait := false, mutePulse := false, lateMute := s.link.newMute, fixed := []
    fields := none, slotRoom := [], arb := none, slotWon := false }

/-- The frame in progress ends: the drive-fault count is judged, the frame is handed over, and a new frame begins. -/
def endFrame (pins : HandOverPins) (s : State) : State :=
  let s := driveFaultJudge s
  let s := match s.link.endedAs with
    | some frame => handOver frame pins s
    | none => s
  beginFrame s

/-- A recognized fall in ACTIVE. A fault found in the bits before the fall, or at the end of an own pulse's 2 µs, is taken first, and the
arrival is then not taken (R12, R14); so it is where both fall at one instant (DESIGN CHOICE, log 41: R12 lets either come first). -/
def arrival (ldata : List LineBit) (pins : HandOverPins) (s : State) : State :=
  if s.link.state = .active then
    let s := echoEnds (frameTail ldata s)
    if s.link.state = .active then endFrame pins s else s
  else s

/-- FRAME_ARRIVAL. -/
def execFrameArrival (dt : Nat) (ldata : List LineBit) (pins : HandOverPins) (s : State) : Host.Outcome State Fault Refusal :=
  act dt (arrival ldata pins) s

/-- A recognized fall in LISTENING (R9, R10, R15). -/
def listeningFalls (pins : HandOverPins) (s : State) : State :=
  if s.link.state = .listening then
    let s := s.setLink { s.link with
      lineStuck := false, silence := some recognition, lsyncLow := true, lowTime := some recognition }
    if s.mayActivate then endFrame pins (enterActive s) else s
  else s

/-- LISTENING_FALL. -/
def execListeningFall (dt : Nat) (pins : HandOverPins) (s : State) : Host.Outcome State Fault Refusal :=
  act dt (listeningFalls pins) s

/-! ### LSYNC held low (R15, R16) -/

/-- LSYNC has been low for more than 1 ms (R15). A low of exactly 1.000 ms does not set LINE_STUCK yet: it is set from 1001 µs on, the first
whole µs above 1 ms (DESIGN CHOICE, log 43: the worked sequence of chapter 1 sets it at 101.000 for a fall at 100.000). -/
def lineSticks (s : State) : State :=
  if s.link.state ≠ .fault ∧ s.link.lsyncLow ∧ reached (lineStuckLimit + 1) s.link.lowTime then
    s.setLink { s.link with lineStuck := true }
  else s

/-- LINE_STUCK_DETECT. -/
def execLineStuckDetect (dt : Nat) (s : State) : Host.Outcome State Fault Refusal := act dt lineSticks s

/-- A missing-frame event (R16). -/
def missingFrame (pins : HandOverPins) (s : State) : State :=
  if s.link.state = .active ∧ s.link.lineStuck ∧ s.link.lsyncLow ∧ reached missingFrameLimit s.link.missTimer then
    handOver none pins (s.setLink { s.link with missTimer := some 0, missTaken := true })
  else s

/-- MISSING_FRAME_EVENT. -/
def execMissingFrameEvent (dt : Nat) (pins : HandOverPins) (s : State) : Host.Outcome State Fault Refusal :=
  act dt (missingFrame pins) s

/-- LSYNC rises (R16): no further missing-frame event falls due; LINE_STUCK stays. -/
def lsyncRises (s : State) : State := s.setLink { s.link with lsyncLow := false, lowTime := none, missTimer := none }

/-- LSYNC_RISE. -/
def execLsyncRise (dt : Nat) (s : State) : Host.Outcome State Fault Refusal := act dt lsyncRises s

/-! ### Phases and the own pulse (R5, R7) -/

/-- SYNC ends at 48 µs: FIELDS when LSYNC reads high, VOID when it still reads low. -/
def syncEnds (s : State) : State :=
  if s.link.state = .active ∧ s.link.phase = .sync ∧ reached syncEnd s.link.frameTime then
    s.setLink { s.link with phase := if s.link.lsyncLow then .void else .fields }
  else s

/-- SYNC_PHASE_END. -/
def execSyncPhaseEnd (dt : Nat) (s : State) : Host.Outcome State Fault Refusal := act dt syncEnds s

/-- The own pulse ends 40 µs after the expiry (R7). -/
def pulseEnds (s : State) : State :=
  if reached pulseLength s.link.pulse then s.setLink { s.link with lsyncDriven := false, pulse := none } else s

/-- LSYNC_PULSE_END. -/
def execLsyncPulseEnd (dt : Nat) (s : State) : Host.Outcome State Fault Refusal := act dt pulseEnds s

end Sys2Proof.Machine
end

