-- ==== Sys2Proof/Machine/Startup.lean ====
section
/-! DEFINITION. CFG and the ticks (chapter 11, R18): resets, the configuration read, yields, the indicator tick, the uptime tick, loss
of supply. -/

namespace Sys2Proof.Machine

/-! ### Resets (R187, R191) -/

/-- CONT at the end of a reset (R126, R130): OPENING with the open timer started when CONT_AUX reads closed. -/
def Cont.atReset (contAux isolate : Bool) (c : Cont) : Cont :=
  { c with state := if contAux then .opening else .rackOpen, openTimer := if contAux then some 0 else none
           auxClosed := contAux, isolateRead := isolate }

/-- The station at the end of a reset with the pins as read there; the retained domain as given (R191). -/
def afterReset (pins : ResetPins) (r : Retained) (s : State) : State :=
  { State.reset with
    cfg := { State.reset.cfg with address := pins.address, straps := ⟨pins.rolePlant, pins.roleGrid, pins.roleSupp⟩ }
    link := { State.reset.link with lsyncLow := pins.lsyncLow, lowTime := if pins.lsyncLow then some 0 else none }
    cont := State.reset.cont.atReset pins.contAux pins.isolate
    retained := r
    pending := s.pending }

/-- POWER_ON_RESET: every item takes its value after reset, the retained domain too (R191). -/
def execPowerOnReset (pins : ResetPins) (s : State) : Host.Outcome State Fault Refusal :=
  .next (afterReset pins State.reset.retained s)

/-- PIN_RESET: as a power-on reset, but the retained domain is kept (R191). Without supply there is nothing to reset. -/
def execPinReset (pins : ResetPins) (s : State) : Host.Outcome State Fault Refusal :=
  .next (if s.powered then afterReset pins s.retained s else s)

/-- SUPPLY_LOSS: nothing is driven and nothing acts until a power-on reset, and the retained domain is lost (R191). -/
def execSupplyLoss (s : State) : Host.Outcome State Fault Refusal :=
  .next { State.reset with powered := false, pending := s.pending }

/-! ### The configuration read (R188 to R190) -/

/-- CFG settles the configuration in use: the image's settings when every check passes, else the built-in set. -/
def settleConfig (img : List Byte) (s : State) : State :=
  let valid := imageValid s.own img
  s.setCfg { s.cfg with image := img, valid := valid, loaded := some (if valid then parseImage img else builtIn s.own) }

/-- The blocks take their defaults: the active profile (R99) and balance-enable (R90). -/
def takeDefaults (s : State) : State :=
  (s.setAlw { s.alw with active := s.config.defaultProfile }).setCell { s.cell with balanceEnable := s.config.balanceDefault }

/-- The read completes: settings, defaults, first scan (R65), GRID's start (R168, R186). The image is read once (R188). -/
def configReads (image : List Byte) (pins : GridPins) (s : State) : State :=
  if s.readDone then s
  else
    let s := takeDefaults (settleConfig (readImage image) s)
    let s := scanStart (s.setMeas { s.meas with scanTimer := some 0 })
    gridStart pins s

/-- CONFIG_READ_COMPLETE. -/
def execConfigReadComplete (dt : Nat) (image : List Byte) (pins : GridPins) (s : State) : Host.Outcome State Fault Refusal :=
  act dt (configReads image pins) s

/-! ### Yields (R194) -/

/-- The block of a role takes its yield. -/
def blockYield : Role → State → State
  | .plant, s => plantYield s
  | .grid, s => gridYield s
  | .supp, s => suppYield s

/-- CFG yields a role: ROLE_YIELDED, and the yield to the role's block at that instant. The rival and a claim still to be handed over
are dropped with the role. -/
def yieldRole (r : Role) (s : State) : State :=
  blockYield r (s.setCfg { s.cfg with
    yielded := s.cfg.yielded.set r true, roleYielded := true
    rivals := s.cfg.rivals.set r none, reclaim := s.cfg.reclaim.filter (· != r) })

/-- CFG at ALARM_RESET (R194). -/
def cfgReset (s : State) : State := s.setCfg { s.cfg with roleYielded := false }

/-! ### Ticks (R18, R196) -/

/-- The tick's number and, at every 100th, the uptime tick due. -/
def countTick (s : State) : State :=
  let n := s.indicator.ticks + 1
  s.setIndicator { s.indicator with
    tickTime := s.indicator.tickTime - tickPeriod, ticks := n, uptimeDue := s.indicator.uptimeDue || n % 100 == 0 }

/-- CFG forms ALERT (R196). -/
def formAlert (s : State) : State := s.setIndicator { s.indicator with alert := s.alertLevel s.indicator.ticks }

/-- An indicator tick: ISOLATE (R126), fire lines (R149), SUPP alone (R166), REL_CONF (R165), and ALERT from what they leave. -/
def tick (pins : TickPins) (s : State) : State :=
  if tickPeriod ≤ s.indicator.tickTime then
    formAlert (watchTick pins.relConf (suppTick (fireTick pins.loops (isolateTick pins.isolate (countTick s)))))
  else s

/-- INDICATOR_TICK. -/
def execIndicatorTick (dt : Nat) (pins : TickPins) (s : State) : Host.Outcome State Fault Refusal := act dt (tick pins) s

/-- The uptime tick advances the uptime seconds (R183). -/
def uptimeTicks (s : State) : State :=
  if s.indicator.uptimeDue then
    (s.setIndicator { s.indicator with uptimeDue := false }).setRetained { s.retained with uptime := s.retained.uptime + 1 }
  else s

/-- UPTIME_TICK. -/
def execUptimeTick (dt : Nat) (s : State) : Host.Outcome State Fault Refusal := act dt uptimeTicks s

end Sys2Proof.Machine
end

