-- ==== Sys2Proof/Machine/Notices.lean ====
section
/-! DEFINITION. Notices taken (R54 to R63): the checks in their order, the refusals, and what the owner of each kind does. A command
of this file takes the head of the inbound queue when that head is of its kind. -/

namespace Sys2Proof.Machine

/-! ### Checks (R56, R57) -/

/-- Reason codes of RESULT (12.3). -/
inductive Reason where
  | unknownKind | notPermitted | range | wrongRole | lockedOut | state | busy
  deriving DecidableEq, Repr

def Reason.code : Reason → Nat
  | .unknownKind => 1 | .notPermitted => 2 | .range => 3 | .wrongRole => 4 | .lockedOut => 5 | .state => 6 | .busy => 7

/-- What the checks give: the notice is taken by its owner, discarded, refused at checks 1 to 6, or refused by its owner at check 7. -/
inductive Verdict where
  | taken | discarded | refused (r : Reason) | ownerRefuses (r : Reason)
  deriving DecidableEq, Repr

/-- Byte `i` of a payload. -/
def InNotice.byte (n : InNotice) (i : Nat) : Nat := (n.payload.getD i 0).toNat

/-- Check 4: every payload value inside its range (3.5, 12.3). STATUS: bit 6 of its first byte is 0, and each coded part holds a code
of its table. -/
def payloadOk (k : Kind) (n : InNotice) : Bool :=
  match k with
  | .profileSelect => decide (n.byte 0 ≤ 3)
  | .balanceSet => decide (n.byte 0 ≤ 1)
  | .status => !(n.byte 0).testBit 6 && decide (n.byte 2 ≤ 7) && decide (n.byte 3 ≤ 4) && decide (n.byte 4 ≤ 5)
      && decide (n.byte 5 ≤ 254) && decide (n.byte 6 ≤ 254) && decide (n.byte 7 / 16 ≤ 6)
  | .snapshotSegment => decide (n.byte 0 ≤ 8)
  | .result => decide (n.byte 0 ≤ 31) && decide (1 ≤ n.byte 1) && decide (n.byte 1 ≤ 7)
  | .roleClaim => decide (1 ≤ n.byte 0) && decide (n.byte 0 ≤ 3) && decide (n.byte 1 ≤ 1)
  | .fireReport => decide (n.byte 0 ≤ 4) && decide (n.byte 1 < 64) && decide (n.byte 2 < 64)
  | .tripReport => decide (1 ≤ n.byte 0) && decide (n.byte 0 ≤ 6)
  | _ => true

/-- The GRID commands of check 6. -/
def Kind.needsGrid : Kind → Bool
  | .closeRequest | .openRequest | .lockoutClear => true
  | _ => false

/-- The reads that may not be broadcast (check 5). -/
def Kind.isRead : Kind → Bool
  | .statusRead | .snapshotRead => true
  | _ => false

/-- Check 7: the owner's refusal in its present state (R57, R61, R120, R163, R173). -/
def State.ownerRefusal (s : State) : Kind → Option Reason
  | .rackJoin => if s.cont.lockout then some .lockedOut else if !s.configValid then some .state else none
  | .closeRequest =>
    match s.grid.state with
    | .breakerFault => some .state
    | .recloseLockout => some .lockedOut
    | _ => none
  | .alarmReset => if s.retained.releasedLatch then some .state else none
  | .snapshotRead => if s.mail.readout.isSome then some .busy else none
  | _ => none

/-- The checks of R56, in order. -/
def State.verdict (s : State) (n : InNotice) : Verdict :=
  match Kind.ofCode n.kind with
  | none => .refused .unknownKind
  | some k =>
    if k.isCommand && !s.config.commanders.contains n.source then .refused .notPermitted
    else if n.payload.length != k.length || !payloadOk k n then (if k.isCommand then .refused .range else .discarded)
    else if k.isRead && n.dest == broadcast then .discarded
    else if k.needsGrid && !s.holds .grid then .refused .wrongRole
    else
      match s.ownerRefusal k with
      | some r => .ownerRefuses r
      | none => .taken

/-- Directed to the station (a notice enqueued is directed to it or broadcast, R46). -/
def InNotice.directed (n : InNotice) : Bool := n.dest != broadcast

/-- Taking the notice would queue a reply (R54). -/
def State.needsReply (s : State) (n : InNotice) : Bool :=
  n.directed &&
    match s.verdict n with
    | .refused _ | .ownerRefuses _ => true
    | .taken => (Kind.ofCode n.kind).elim false Kind.isRead
    | .discarded => false

/-- A refusal's answer: a RESULT to a directed notice, none to a broadcast (R56, R57). -/
def answer (n : InNotice) (r : Reason) (s : State) : State := if n.directed then queueResult n.source n.kind r.code s else s

/-- What a notice taken comes to: its owner's effect, a refusal, or nothing. `refused` is what the owner does although it refuses
(ALARM_RESET, R58). The reply takes the place that allowed the taking, so it is queued first (R54). -/
def resolve (effect : InNotice → State → State) (refused : State → State) (n : InNotice) (v : Verdict) (s : State) : State :=
  match v with
  | .taken => effect n s
  | .discarded => s
  | .refused r => answer n r s
  | .ownerRefuses r => refused (answer n r s)

/-- LINK takes the head of the inbound queue, when it is of the command's kind: at once if it needs no reply, and only with a free place
in the outbound queue if it does (R54). -/
def takeHead (mine : Option Kind → Bool) (effect : InNotice → State → State) (refused : State → State) (s : State) : State :=
  match s.mail.inbound with
  | [] => s
  | n :: rest =>
    if mine (Kind.ofCode n.kind) && (!s.needsReply n || decide (s.mail.outbound.length < outboundCapacity)) then
      resolve effect refused n (s.verdict n) (s.setMail { s.mail with inbound := rest })
    else s

/-- A command of one kind whose owner does nothing when it refuses. -/
def takeKind (k : Kind) (effect : InNotice → State → State) (s : State) : State := takeHead (· == some k) effect id s

/-! ### Commands (R58, 3.5) -/

/-- UNKNOWN_KIND_NOTICE: no owner; check 1 refuses it. -/
def execUnknownKindNotice (dt : Nat) (s : State) : Host.Outcome State Fault Refusal :=
  act dt (takeHead (· == none) (fun _ s => s) id) s

/-- RACK_JOIN (R120). -/
def execRackJoin (dt : Nat) (s : State) : Host.Outcome State Fault Refusal := act dt (takeKind .rackJoin fun _ => rackJoinTaken) s

/-- RACK_LEAVE (R120). -/
def execRackLeave (dt : Nat) (s : State) : Host.Outcome State Fault Refusal := act dt (takeKind .rackLeave fun _ => clearJoin) s

/-- CLOSE_REQUEST (R173). -/
def execCloseRequest (dt : Nat) (s : State) : Host.Outcome State Fault Refusal :=
  act dt (takeKind .closeRequest fun _ => closeRequestTaken) s

/-- OPEN_REQUEST (R173). -/
def execOpenRequest (dt : Nat) (s : State) : Host.Outcome State Fault Refusal :=
  act dt (takeKind .openRequest fun _ => openRequestTaken) s

/-- LOCKOUT_CLEAR (R184). -/
def execLockoutClear (dt : Nat) (s : State) : Host.Outcome State Fault Refusal :=
  act dt (takeKind .lockoutClear fun _ => lockoutClearTaken) s

/-- LINK at ALARM_RESET (R58). -/
def linkReset (s : State) : State :=
  (s.setMonitor { s.monitor with stranger := false }).setMail
    { s.mail with noticeUndelivered := false, outboundDropped := false, inboundOverrun := false }

/-- ALARM_RESET at its owners: LINK, MEAS, CELL, CONT, SUPP and FIRE, CFG (R58). -/
def alarmResetTaken (s : State) : State := cfgReset (fireSuppReset (contReset (cellReset (measReset (linkReset s)))))

/-- ALARM_RESET (R58): SUPP's refusal with the released latch set leaves every other owner's part as it is. -/
def execAlarmReset (dt : Nat) (s : State) : Host.Outcome State Fault Refusal :=
  act dt (takeHead (· == some .alarmReset) (fun _ => alarmResetTaken) alarmResetTaken) s

/-- PROFILE_SELECT (R99). -/
def execProfileSelect (dt : Nat) (s : State) : Host.Outcome State Fault Refusal :=
  act dt (takeKind .profileSelect fun n => profileSelectTaken (n.byte 0)) s

/-- BALANCE_SET (R90). -/
def execBalanceSet (dt : Nat) (s : State) : Host.Outcome State Fault Refusal :=
  act dt (takeKind .balanceSet fun n => balanceSetTaken (n.byte 0 == 1)) s

/-- LINK answers a STATUS_READ (R60). -/
def statusReadTaken (n : InNotice) (s : State) : State :=
  queueNotice ⟨.data, n.source, .status, s.statusPayload, .link, .waiting⟩ s

/-- STATUS_READ. -/
def execStatusRead (dt : Nat) (s : State) : Host.Outcome State Fault Refusal := act dt (takeKind .statusRead statusReadTaken) s

/-- A readout starts: the page hold, and segment 0 (R61, R79). -/
def snapshotReadTaken (n : InNotice) (s : State) : State :=
  queueSegment n.source 0 (s.setMeas { s.meas with pageHold := true })

/-- SNAPSHOT_READ. -/
def execSnapshotRead (dt : Nat) (s : State) : Host.Outcome State Fault Refusal := act dt (takeKind .snapshotRead snapshotReadTaken) s

/-- DEAD_BUS_CLAIM (R121). -/
def execDeadBusClaim (dt : Nat) (s : State) : Host.Outcome State Fault Refusal :=
  act dt (takeKind .deadBusClaim fun _ => claimTaken) s

/-- The role a ROLE_CLAIM names; its payload has passed check 4. -/
def InNotice.role (n : InNotice) : Role :=
  match n.byte 0 with
  | 1 => .plant
  | 2 => .grid
  | _ => .supp

/-- CFG takes a ROLE_CLAIM (R193). A claimer in operation that comes while another rival is recorded for the role takes its place: one rival is
kept for a role, the latest (DESIGN CHOICE, log 48: R193 does not speak of two rivals). -/
def roleClaimTaken (n : InNotice) (s : State) : State :=
  let r := n.role
  if s.holds r then
    match n.byte 1 == 1, s.inOperation r with
    | true, false => yieldRole r s
    | false, true => queueRoleClaim r s
    | false, false => if n.source < s.own then yieldRole r s else queueRoleClaim r s
    | true, true => s.setCfg { s.cfg with rivals := s.cfg.rivals.set r (some n.source) }
  else s

/-- ROLE_CLAIM. -/
def execRoleClaim (dt : Nat) (s : State) : Host.Outcome State Fault Refusal := act dt (takeKind .roleClaim roleClaimTaken) s

/-- The kinds that are records for the gateway (R59). -/
def Kind.isReport : Kind → Bool
  | .status | .snapshotSegment | .result | .fireReport | .tripReport => true
  | _ => false

/-- REPORT_NOTICE_TAKEN: taken and discarded (R59). -/
def execReportNoticeTaken (dt : Nat) (s : State) : Host.Outcome State Fault Refusal :=
  act dt (takeHead (fun k => k.elim false Kind.isReport) (fun _ s => s) id) s

end Sys2Proof.Machine
end

