-- ==== Sys2Proof/Machine/Dispatch.lean ====
section
/-! DEFINITION. What each command does to the station, but for its queue of commands: one meaning per constructor. -/

namespace Sys2Proof.Machine

def exec (i : Instr) (s : State) : Host.Outcome State Fault Refusal :=
  match i with
  | .powerOnReset pins => Sys2Proof.Machine.execPowerOnReset pins s
  | .pinReset pins => Sys2Proof.Machine.execPinReset pins s
  | .configReadComplete dt image pins => Sys2Proof.Machine.execConfigReadComplete dt image pins s
  | .silenceLimit dt line => Sys2Proof.Machine.execSilenceLimit dt line s
  | .listeningFall dt pins => Sys2Proof.Machine.execListeningFall dt pins s
  | .frameTimerExpiry dt line => Sys2Proof.Machine.execFrameTimerExpiry dt line s
  | .frameArrival dt ldata pins => Sys2Proof.Machine.execFrameArrival dt ldata pins s
  | .lineStuckDetect dt => Sys2Proof.Machine.execLineStuckDetect dt s
  | .missingFrameEvent dt pins => Sys2Proof.Machine.execMissingFrameEvent dt pins s
  | .noticeSlotEnd dt ldata => Sys2Proof.Machine.execNoticeSlotEnd dt ldata s
  | .unknownKindNotice dt => Sys2Proof.Machine.execUnknownKindNotice dt s
  | .rackJoin dt => Sys2Proof.Machine.execRackJoin dt s
  | .rackLeave dt => Sys2Proof.Machine.execRackLeave dt s
  | .closeRequest dt => Sys2Proof.Machine.execCloseRequest dt s
  | .openRequest dt => Sys2Proof.Machine.execOpenRequest dt s
  | .lockoutClear dt => Sys2Proof.Machine.execLockoutClear dt s
  | .alarmReset dt => Sys2Proof.Machine.execAlarmReset dt s
  | .profileSelect dt => Sys2Proof.Machine.execProfileSelect dt s
  | .balanceSet dt => Sys2Proof.Machine.execBalanceSet dt s
  | .statusRead dt => Sys2Proof.Machine.execStatusRead dt s
  | .snapshotRead dt => Sys2Proof.Machine.execSnapshotRead dt s
  | .deadBusClaim dt => Sys2Proof.Machine.execDeadBusClaim dt s
  | .roleClaim dt => Sys2Proof.Machine.execRoleClaim dt s
  | .reportNoticeTaken dt => Sys2Proof.Machine.execReportNoticeTaken dt s
  | .scanStart dt => Sys2Proof.Machine.execScanStart dt s
  | .conversionEnd dt code => Sys2Proof.Machine.execConversionEnd dt code s
  | .scanCompletion dt => Sys2Proof.Machine.execScanCompletion dt s
  | .indicatorTick dt pins => Sys2Proof.Machine.execIndicatorTick dt pins s
  | .isolateHoldExpiry dt => Sys2Proof.Machine.execIsolateHoldExpiry dt s
  | .uptimeTick dt => Sys2Proof.Machine.execUptimeTick dt s
  | .contAuxChange dt closed => Sys2Proof.Machine.execContAuxChange dt closed s
  | .closeTimerExpiry dt => Sys2Proof.Machine.execCloseTimerExpiry dt s
  | .openTimerExpiry dt => Sys2Proof.Machine.execOpenTimerExpiry dt s
  | .claimSeenExpiry dt => Sys2Proof.Machine.execClaimSeenExpiry dt s
  | .gridOkRise dt => Sys2Proof.Machine.execGridOkRise dt s
  | .gridOkFall dt => Sys2Proof.Machine.execGridOkFall dt s
  | .reconnectDelayReached dt => Sys2Proof.Machine.execReconnectDelayReached dt s
  | .brkAuxClose dt => Sys2Proof.Machine.execBrkAuxClose dt s
  | .brkAuxOpen dt => Sys2Proof.Machine.execBrkAuxOpen dt s
  | .pcsReadyChange dt ready => Sys2Proof.Machine.execPcsReadyChange dt ready s
  | .brkClosePulseEnd dt => Sys2Proof.Machine.execBrkClosePulseEnd dt s
  | .gridCloseTimerExpiry dt => Sys2Proof.Machine.execGridCloseTimerExpiry dt s
  | .tripTimerExpiry dt => Sys2Proof.Machine.execTripTimerExpiry dt s
  | .countdownExpiry dt => Sys2Proof.Machine.execCountdownExpiry dt s
  | .releasePulseEnd dt => Sys2Proof.Machine.execReleasePulseEnd dt s
  | .confirmationWatchTimeout dt => Sys2Proof.Machine.execConfirmationWatchTimeout dt s
  | .plantTimerLimit dt timer => Sys2Proof.Machine.execPlantTimerLimit dt timer s
  | .syncPhaseEnd dt => Sys2Proof.Machine.execSyncPhaseEnd dt s
  | .fieldAreaEnd dt ldata => Sys2Proof.Machine.execFieldAreaEnd dt ldata s
  | .lsyncPulseEnd dt => Sys2Proof.Machine.execLsyncPulseEnd dt s
  | .lsyncRise dt => Sys2Proof.Machine.execLsyncRise dt s
  | .supplyLoss => Sys2Proof.Machine.execSupplyLoss s

end Sys2Proof.Machine
end

