-- ==== Sys2Proof/Machine/Pins.lean ====
section
/-! DEFINITION. The output pins (00_scope, Pin summary) as a view of the state: nothing here is stored twice. -/

namespace Sys2Proof.Machine

/-- The levels on the station's output pins. `lsyncLow` says that the station pulls LSYNC low; LDATA is driven bit by bit and stands in
`link.fieldDrive` and `link.slotDrive`. -/
structure Outputs where
  lsyncLow : Bool
  bleed : List Bool
  contCoil : Bool
  fan : Nat
  zdamp : Bool
  alert : Bool
  chst : List Bool
  fadamp : Bool
  brkClose : Bool
  brkTrip : Bool
  pcsEn : Bool
  limitChg : Nat
  limitDis : Nat
  relOut : Bool
  deriving DecidableEq, Repr

/-- BRK_TRIP by breaker state (R174, R179, R181): the trip pulse, which runs on where the trip has completed; held while BRK_AUX reads
closed in BREAKER_FAULT and RECLOSE_LOCKOUT; never in CLOSING or CLOSED. -/
def Grid.brkTrip (g : Grid) : Bool :=
  match g.state with
  | .brkOpen | .reconnectWait | .tripping => g.tripTimer.isSome
  | .closing | .closed => false
  | .breakerFault => g.brkAux
  | .recloseLockout => g.brkAux || g.tripTimer.isSome

/-- The output pins of the station (R95, R113, R115, R134, R140, R144, R164, R174, R177, R196); GRID's are inactive while it does not
run (R168, R185). -/
def State.outputs (s : State) : Outputs where
  lsyncLow := s.link.lsyncDriven
  bleed := s.cell.bleed
  contCoil := s.cont.state.coil
  fan := s.therm.fan
  zdamp := s.therm.damper
  alert := s.indicator.alert
  chst := s.plant.stages.map (·.running)
  fadamp := s.plant.fadamp
  brkClose := s.grid.running && s.grid.state == .closing && s.grid.closePulse.isSome
  brkTrip := s.grid.running && s.grid.brkTrip
  pcsEn := s.grid.running && s.grid.state == .closed && s.grid.pcsReady
  limitChg := s.alw.duties.chg
  limitDis := s.alw.duties.dis
  relOut := s.supp.relPulse.isSome

end Sys2Proof.Machine
end

