-- ==== Sys2Proof/Safety.lean ====
section
/-! DEFINITION. What a safe station is: the invariants that statements are made about. -/

namespace Sys2Proof.Machine

/-! ### The contactor (R115, R117) -/

/-- On the way to the bus or on it: WAIT_MATCH, CLAIMING, CLOSING, CLOSED. -/
def ContState.joining : ContState → Bool
  | .waitMatch | .claiming | .closing | .closed => true
  | _ => false

/-- The close conditions, row by row as the table of R117 has them. -/
def State.mayJoin (s : State) : Prop :=
  s.cont.joinRequested = true ∧ s.meas.summary.valid = true
    ∧ (∀ cls ∈ s.classes, cls ≠ .lowTrip ∧ cls ≠ .highTrip ∧ cls ≠ .openWire)
    ∧ s.fire.localStage = .normal ∧ (s.holds .supp = true → s.publishedStage = .normal) ∧ s.rcv.stage = .normal
    ∧ s.configValid = true ∧ s.link.state = .active ∧ s.peerLoss = false ∧ s.cell.overcurrent = false

/-- CONT_COIL is driven in CLOSING and CLOSED alone (R115). -/
def State.coilFollows (s : State) : Prop := s.outputs.contCoil = true ↔ s.cont.state = .closing ∨ s.cont.state = .closed

/-- The contactor is safe: it is on its way to the bus, or on it, only while the close conditions hold. -/
def State.contactorSafe (s : State) : Prop := s.cont.state.joining = true → s.mayJoin

/-- CONT at a scan completion with the close conditions holding after it (R118, R119, R122): `s` before it, `t` after it, `live` for a bus at
5.00 V or more, `near` for a rack within the match window of the bus. -/
def State.contScanned (s : State) (live near : Prop) (t : State) : Prop :=
  (live → s.cont.state = .rackOpen ∨ s.cont.state = .waitMatch → ∀ n,
    n = (if s.cont.state = .waitMatch then s.cont.matchCount else 0) →
    (¬ near → t.cont.state = .waitMatch ∧ t.cont.matchCount = 0)
    ∧ (near → n < 2 → t.cont.state = .waitMatch ∧ t.cont.matchCount = n + 1)
    ∧ (near → 2 ≤ n → s.cont.auxClosed = false → t.cont.state = .closing ∧ t.cont.closeTimer = some 0)
    ∧ (near → 2 ≤ n → s.cont.auxClosed = true → t.cont.state = .closed))
  ∧ (¬ live → s.cont.state = .rackOpen ∨ s.cont.state = .waitMatch →
    (s.cont.claimSeen = none → s.mail.outbound.length < 8 → t.cont.state = .claiming ∧ t.cont.claim = s.cont.claim + 1
      ∧ t.mail.outbound = insertNotice ⟨.control, 31, .deadBusClaim, [], .cont (s.cont.claim + 1), .waiting⟩ s.mail.outbound)
    ∧ (s.cont.claimSeen ≠ none → t.cont.state = .rackOpen ∧ t.mail = s.mail))
  ∧ (s.cont.state ≠ .rackOpen → s.cont.state ≠ .waitMatch → t.cont = s.cont ∧ t.mail = s.mail)

/-- CONT at an evaluation that fails (R117): on its way it returns to OPEN; on the bus it opens. -/
def State.contFailed (s t : State) : Prop :=
  (s.cont.state = .waitMatch ∨ s.cont.state = .claiming → t.cont.state = .rackOpen)
  ∧ (s.cont.state = .closing ∨ s.cont.state = .closed →
    (s.cont.auxClosed = true → t.cont.state = .opening ∧ t.cont.openTimer = some 0)
    ∧ (s.cont.auxClosed = false → t.cont.state = if s.cont.lockout then .lockout else .rackOpen))
  ∧ (s.cont.state = .rackOpen ∨ s.cont.state = .opening ∨ s.cont.state = .welded ∨ s.cont.state = .lockout → t.cont = s.cont)

/-! ### The breaker (R174) -/

/-- The first sentence of R174: in CLOSING or CLOSED the latest frame carried PERMIT 1, the filtered container stage is NORMAL and
GRID_OK is high. -/
def State.breakerJustified (s : State) : Prop :=
  s.grid.running = true → s.grid.state.engaged = true → s.rcv.permit = true ∧ s.rcv.stage = .normal ∧ s.grid.gridOk = true

/-- The breaker is safe: R174, with what it rests on: GRID runs only once the configuration is read, the permit-stability count is 0
before that and says at any later time that the latest frame granted, and the reconnect timer runs only while GRID_OK is high. -/
def State.breakerSafe (s : State) : Prop :=
  s.breakerJustified
    ∧ (s.grid.running = true → s.readDone = true)
    ∧ (s.readDone = false → s.grid.permitCount = 0)
    ∧ (s.grid.running = true → 0 < s.grid.permitCount → s.rcv.permit = true)
    ∧ (s.grid.reconnect.isSome = true → s.grid.gridOk = true)

/-- GRID's output pins, row by row as the table of R174 has them, and inactive while GRID does not run: BRK_CLOSE in CLOSING while its pulse
runs (R176), PCS_EN in CLOSED while PCS_READY is high (R177), BRK_TRIP while its pulse runs (R179), and in BREAKER_FAULT and RECLOSE_LOCKOUT
while BRK_AUX reads closed (R181, R182). -/
def State.breakerPins (s : State) : Prop :=
  (s.grid.running = false → s.outputs.brkClose = false ∧ s.outputs.brkTrip = false ∧ s.outputs.pcsEn = false)
  ∧ (s.grid.running = true →
    (s.outputs.brkClose = true ↔ s.grid.state = .closing ∧ s.grid.closePulse ≠ none)
    ∧ (s.outputs.pcsEn = true ↔ s.grid.state = .closed ∧ s.grid.pcsReady = true)
    ∧ (s.grid.state = .brkOpen ∨ s.grid.state = .reconnectWait ∨ s.grid.state = .tripping →
        (s.outputs.brkTrip = true ↔ s.grid.tripTimer ≠ none))
    ∧ (s.grid.state = .closing ∨ s.grid.state = .closed → s.outputs.brkTrip = false)
    ∧ (s.grid.state = .breakerFault → (s.outputs.brkTrip = true ↔ s.grid.brkAux = true))
    ∧ (s.grid.state = .recloseLockout → (s.outputs.brkTrip = true ↔ s.grid.brkAux = true ∨ s.grid.tripTimer ≠ none)))

/-! ### The queues (R51, R54) -/

/-- The queues keep their bounds and the outbound queue its order, SAFETY first. -/
def State.queuesSafe (s : State) : Prop :=
  s.mail.outbound.length ≤ 8 ∧ s.mail.inbound.length ≤ 4
    ∧ s.mail.outbound.Pairwise fun a b => a.priority.code ≤ b.priority.code

/-! ### The bleed drivers (R93) -/

/-- The first sentence of R93: a bleed driver is on only outside a scan, with both stages NORMAL and balance-enable on, and never more
than the configured maximum are, nor more than 8. -/
def State.bleedSafe (s : State) : Prop :=
  s.bleedCount ≤ s.config.maxBleed ∧ s.bleedCount ≤ 8
    ∧ (0 < s.bleedCount → s.meas.scan = none ∧ s.fire.localStage = .normal ∧ s.rcv.stage = .normal ∧ s.cell.balanceEnable = true)

/-! ### The published pair (R107) -/

/-- The first sentence of R107: charge 0 at PRE_ALARM or higher of either stage, both 0 at ALARM or higher or in WELDED. -/
def State.allowanceSafe (s : State) : Prop :=
  (s.fire.localStage ≠ .normal ∨ s.rcv.stage ≠ .normal → s.alw.published.chg = 0)
    ∧ (s.fire.localStage.isAlarm = true ∨ s.rcv.stage.isAlarm = true ∨ s.cont.state = .welded → s.alw.published = ⟨0, 0⟩)

/-! ### The container limits (R112, R113) -/

/-- The limits are what R110 and R112 give at every instant: in CLOSED, outside FAULT, floor(reading × n × share / 100) A, at most the
converter's limit, with n the addresses in CLOSED; 0 for a reading of 255, for n of 0, and at any other time. Each duty is that of its
limit (R113). -/
def State.limitsSafe (s : State) : Prop :=
  let n := ((List.range 32).filter fun a => s.rcv.closed.getLsbD a).length
  let limit (reading : Nat) : Nat :=
    if s.holds .grid = true ∧ s.grid.running = true ∧ s.grid.state = .closed ∧ s.link.state ≠ .fault ∧ n ≠ 0 ∧ reading ≠ 255
    then min s.config.pcsMax (reading * n * s.config.share / 100) else 0
  s.alw.limits = ⟨limit s.rcv.chg, limit s.rcv.dis⟩
    ∧ s.alw.duties = ⟨s.alw.limits.chg * 4095 / s.config.pcsMax, s.alw.limits.dis * 4095 / s.config.pcsMax⟩

/-! ### The cooling plant (R143) -/

/-- R143, first sentence, but for the 30 s: never more stages than configured, none at ALARM or higher. It rests on this: no stage runs
at a station without the role or before the configuration is read, where nothing that evaluates PLANT has begun. -/
def State.plantSafe (s : State) : Prop :=
  s.runningStages ≤ s.config.stageCount
    ∧ (s.rcv.stage.isAlarm = true → s.runningStages = 0)
    ∧ (s.holds .plant = false → s.runningStages = 0)
    ∧ (s.readDone = false → s.runningStages = 0 ∧ s.link.state ≠ .active ∧ s.meas.scanTimer = none ∧ s.meas.scan = none)

/-! ### Counts (R13, R36, R50, R70, R83, R88, R119, R145, R170, R172) -/

/-- Every count stands in its range; the drive-fault count of 3 only outside ACTIVE. -/
def State.countsSafe (s : State) : Prop :=
  s.link.driveFaults ≤ 3 ∧ (s.link.state = .active → s.link.driveFaults ≤ 2)
    ∧ (∀ n ∈ s.monitor.present, n ≤ 3) ∧ (∀ n ∈ s.monitor.absent, n ≤ 255)
    ∧ (∀ t ∈ s.meas.temps, t.faultCount ≤ 51)
    ∧ (∀ ch ∈ s.cell.chans, ch.warnRun ≤ 3 ∧ ch.tripRun ≤ 3 ∧ ch.openRun ≤ 3 ∧ ch.exitCount ≤ 5)
    ∧ s.mail.holdOff ≤ 2 ∧ s.cell.overCount ≤ 5 ∧ s.cont.matchCount ≤ 3 ∧ s.plant.chFaults ≤ 2
    ∧ s.grid.presentCount ≤ 2 ∧ s.grid.permitCount ≤ 5 ∧ s.retained.records.length ≤ 8

/-! ### The close test (R175) -/

/-- The close test of RECONNECT_WAIT, row by row as R175 has it. -/
def State.mayClose (s : State) : Prop :=
  s.grid.closeRequested = true ∧ (∃ n, s.grid.reconnect = some n ∧ s.config.reconnectDelay * 1000000 ≤ n) ∧ s.grid.permitCount = 5
    ∧ s.rcv.stage = .normal ∧ s.grid.pcsReady = true ∧ s.retained.lockoutRecords < 3

/-! ### FIRE at a sample (R149 to R159) -/

/-- A line counts as active (R151): by its level, or by its latch while the wire reads NORMAL or ACTIVE. -/
def State.lineCounts (s : State) (i : Nat) : Prop :=
  let c := s.config.lines.getD i ⟨.unused, .level⟩
  let l := s.fire.lines.getD i ⟨.normal, none, false, false⟩
  c.type ≠ .unused ∧ (c.mode = .level ∧ l.filtered = .active
    ∨ c.mode = .edge ∧ l.latch = true ∧ (l.filtered = .normal ∨ l.filtered = .active))

/-- A detector, or a call point, on line `i` counts as active (R155). -/
def State.detectorCounts (s : State) (i : Nat) : Prop :=
  s.lineCounts i ∧ (s.config.lines.getD i ⟨.unused, .level⟩).type ∈ [LineType.smoke, .heat, .gas]
def State.callpointCounts (s : State) (i : Nat) : Prop :=
  s.lineCounts i ∧ (s.config.lines.getD i ⟨.unused, .level⟩).type = .callpoint

/-- The coincidence condition (R156). -/
def State.coincides (s : State) : Prop :=
  s.link.state = .active ∧ s.peerLoss = false ∧ s.rcv.stage ≠ .normal ∧ s.rcv.source ≠ s.own

/-- What a sample of the lines leaves (R149, R150, R152, R153, R154): `s` before it, `t` after it. A band is taken at the second of two equal
samples; a change to ACTIVE sets an EDGE line's latch, a change to OPEN or SHORT its LINE_FAULT. -/
def State.linesSampled (s : State) (loops : Loops) (t : State) : Prop :=
  (∀ i < 6, ∀ (c : LineCfg) (l m : FireLine) (ohm : Nat) (b : Band),
    c = s.config.lines.getD i ⟨.unused, .level⟩ → l = s.fire.lines.getD i ⟨.normal, none, false, false⟩ →
    m = t.fire.lines.getD i ⟨.normal, none, false, false⟩ →
    ohm = [loops.fl0, loops.fl1, loops.fl2, loops.fl3, loops.fl4, loops.fl5].getD i 0 →
    b = (if ohm < 500 then .short else if ohm < 3200 then .active else if ohm < 10000 then .normal else .openLoop) →
    (c.type = .unused → m = l)
    ∧ (c.type ≠ .unused → m.prev = some b ∧ m.filtered = (if l.prev = some b then b else l.filtered)
        ∧ (m.latch = true ↔ l.latch = true ∨ c.mode = .edge ∧ m.filtered = .active ∧ l.filtered ≠ .active)
        ∧ (m.lineFault = true ↔ l.lineFault = true
            ∨ (m.filtered = .openLoop ∨ m.filtered = .short) ∧ l.filtered ≠ m.filtered)))
  ∧ (t.fire.holdDrive = true ↔ ∃ i < 6, t.lineCounts i ∧ (t.config.lines.getD i ⟨.unused, .level⟩).type ∈ [LineType.hold, .door])

/-- The local stage after the evaluation that follows a sample (R155 to R157), from the lines as the sample has left them, and the
FIRE_REPORT of a change (R158, R159), given room for it. -/
def State.stageEvaluated (s t : State) : Prop :=
  (t.fire.localStage = .alarm ↔ s.fire.localStage = .alarm ∨ (∃ i < 6, t.callpointCounts i)
      ∨ (∃ i < 6, ∃ j < i, t.detectorCounts i ∧ t.detectorCounts j) ∨ ((∃ i < 6, t.detectorCounts i) ∧ t.coincides))
  ∧ (t.fire.localStage = .preAlarm ↔ t.fire.localStage ≠ .alarm ∧ ∃ i < 6, t.detectorCounts i)
  ∧ (t.fire.localStage = .normal ↔ t.fire.localStage ≠ .alarm ∧ ∀ i < 6, ¬ t.detectorCounts i)
  ∧ (t.fire.localStage ≠ s.fire.localStage → s.link.state ≠ .fault → s.mail.outbound.length ≤ 4 →
      (⟨.safety, 31, .fireReport, [BitVec.ofNat 8 t.publishedStage.rank, t.activeLines, t.faultedLines], .fire, .waiting⟩ : OutNotice)
        ∈ t.mail.outbound)

/-! ### SUPP at its tests (R161, R162, R166) -/

/-- SUPP acts alone (R166). -/
def State.alone (s : State) : Prop := s.link.state ≠ .active ∨ s.peerLoss = true

/-- The HOLD reading that SUPP uses is 0: the record's, or, while it acts alone, its own drive dominant (R162, R166). -/
def State.holdAsked (s : State) : Prop := s.alone ∧ s.fire.holdDrive = true ∨ ¬ s.alone ∧ s.rcv.hold = false

/-- A start condition of R161 holds. -/
def State.starts (s : State) : Prop :=
  s.fire.localStage = .alarm ∨ ¬ s.alone ∧ s.rcv.stage.isAlarm = true ∧ s.rcv.source ≠ s.own

/-- The hold test of R162 on a running countdown. -/
def State.holdTested (s t : State) : Prop :=
  t.supp.releasePending = true
  ∧ (t.holdAsked → t.supp.held = true ∧ t.supp.remaining = s.supp.remaining)
  ∧ (¬ t.holdAsked → t.supp.held = false
      ∧ t.supp.remaining = (if s.supp.held then s.config.countdown * 1000000 else s.supp.remaining))

/-- What SUPP's tests leave: `s` before them, its timers as they stand there, `t` after them. In FOLLOWING a start condition starts the
countdown; in RELEASE_PENDING the HOLD reading holds it or starts it afresh; without the role or with the released latch set nothing. -/
def State.suppTested (s t : State) : Prop :=
  t.supp.relPulse = s.supp.relPulse ∧ t.supp.releaseFault = s.supp.releaseFault
  ∧ (s.holds .supp = false ∨ s.readDone = false ∨ s.retained.releasedLatch = true →
      t.supp.releasePending = s.supp.releasePending ∧ t.supp.remaining = s.supp.remaining ∧ t.supp.held = s.supp.held)
  ∧ (s.holds .supp = true → s.readDone = true → s.retained.releasedLatch = false →
      (s.supp.releasePending = false → t.starts → t.supp.releasePending = true
        ∧ t.supp.remaining = s.config.countdown * 1000000 ∧ (t.supp.held = true ↔ t.holdAsked))
      ∧ (s.supp.releasePending = false → ¬ t.starts → t.supp.releasePending = false
        ∧ t.supp.remaining = s.supp.remaining ∧ t.supp.held = s.supp.held)
      ∧ (s.supp.releasePending = true → s.holdTested t))

/-! ### GRID at a hand-over (R170, R172, R175, R178) -/

/-- What a hand-over leaves of GRID where it runs: the counts; the trip of an engaged breaker by a fire stage or by a lost permit, fire
first, which a breaker that already reads open completes at once; the close test in RECONNECT_WAIT. -/
def State.gridHandedOver (s t : State) : Prop :=
  (s.grid.running = false → t.grid = s.grid)
  ∧ (s.grid.running = true →
    t.grid.presentCount = (if s.grid.gridOk then min 2 (s.grid.presentCount + 1) else 0)
    ∧ t.grid.permitCount = (if t.rcv.permit then min 5 (s.grid.permitCount + 1) else 0)
    ∧ (∀ cause, s.grid.state = .closing ∨ s.grid.state = .closed →
        (t.rcv.stage.isAlarm = true ∧ cause = TripCause.fire
          ∨ t.rcv.stage.isAlarm = false ∧ (t.rcv.permit = false ∨ t.rcv.stage = .preAlarm) ∧ cause = .permitLoss) →
        t.alw.limits = ⟨0, 0⟩ ∧ t.grid.tripTimer = some 0
        ∧ (s.grid.brkAux = true → t.grid.state = .tripping ∧ t.grid.tripCause = some cause ∧ t.retained = s.retained)
        ∧ (s.grid.brkAux = false → 0 < s.config.reconnectDelay →
            t.retained.records = (if s.retained.records.length < 8 then s.retained.records
              else s.retained.records.drop (s.retained.records.length - 7)) ++ [⟨cause, s.retained.uptime, false⟩]
            ∧ t.grid.tripCause = none
            ∧ t.grid.state = (if 3 ≤ t.retained.lockoutRecords then .recloseLockout
              else if s.grid.closeRequested = true ∧ cause = .permitLoss then .reconnectWait else .brkOpen)))
    ∧ (s.grid.state = .closing ∨ s.grid.state = .closed → t.rcv.stage = .normal → t.rcv.permit = true →
        t.grid.state = s.grid.state ∧ t.grid.tripTimer = s.grid.tripTimer ∧ t.retained = s.retained)
    ∧ (s.grid.state = .reconnectWait → ∀ x : State,
        x = { t with grid := { s.grid with permitCount := t.grid.permitCount }, retained := s.retained } →
        t.retained = s.retained
        ∧ (x.mayClose → s.grid.brkAux = false →
            t.grid.state = .closing ∧ t.grid.closePulse = some 0 ∧ t.grid.closeTimer = some 0)
        ∧ (x.mayClose → s.grid.brkAux = true → t.grid.state = .closed)
        ∧ (¬ x.mayClose → t.grid.state = .reconnectWait))
    ∧ (s.grid.state = .brkOpen ∨ s.grid.state = .tripping ∨ s.grid.state = .breakerFault ∨ s.grid.state = .recloseLockout →
        t.grid.state = s.grid.state ∧ t.grid.tripTimer = s.grid.tripTimer ∧ t.retained = s.retained))

/-! ### Role claims (R192) -/

/-- The ROLE_CLAIM of a role, with its in-operation flag. -/
def claimNotice (r : Role) (inOperation : Bool) : OutNotice :=
  ⟨.control, 31, .roleClaim, [BitVec.ofNat 8 r.code, BitVec.ofNat 8 inOperation.toNat], .cfg, .waiting⟩

/-- What a hand-over does with the claims that a full queue has dropped: each is handed over again where the queue has room for it and for
what the blocks may queue before it, with its in-operation flag as it then stands; one is kept only for want of room. -/
def State.claimsAgain (s t : State) : Prop :=
  (s.mail.outbound.length + s.cfg.reclaim.length ≤ 4 →
      ∀ r ∈ s.cfg.reclaim, s.holds r = true → claimNotice r (t.inOperation r) ∈ t.mail.outbound)
    ∧ (s.mail.outbound.length + s.cfg.reclaim.length ≤ 1 → t.cfg.reclaim = [])
    ∧ (t.cfg.reclaim ≠ [] → 8 ≤ t.mail.outbound.length)

/-! ### A hand-over (R6, R31) -/

/-- What a hand-over leaves in the blocks, but for LINK's frame: `s` is the station at that instant, `frame` the readings of a complete
frame. The record (R31 to R34), the counts of the other members and STRANGER (R37, R39), the hold-off count (R50), FIRE, SUPP, PLANT at
the aggregate demand (R139), the limits (R110), CONT's evaluation (R117) and GRID. -/
def State.handedOver (s : State) (frame : Option FieldReadings) (pins : HandOverPins) (t : State) : Prop :=
  t.rcv = s.rcv.handOver (s.link.frameCounter + 1) frame
  ∧ t.mail.holdOff = (if frame.isSome && !s.link.slotWon then min 2 (s.mail.holdOff + 1) else s.mail.holdOff)
  ∧ (∀ a < 32, s.config.members.getLsbD a = true → a ≠ s.own →
      t.monitor.present.getD a 0 = (if t.rcv.presence.getLsbD a then min 3 (s.monitor.present.getD a 0 + 1) else 0)
      ∧ t.monitor.absent.getD a 0 = (if t.rcv.presence.getLsbD a then 0 else min 255 (s.monitor.absent.getD a 0 + 1)))
  ∧ (t.monitor.stranger = true ↔ s.monitor.stranger = true
      ∨ (frame.isSome = true ∧ ∃ a < 32, t.rcv.presence.getLsbD a = true ∧ s.config.members.getLsbD a = false))
  ∧ s.linesSampled pins.loops t ∧ s.stageEvaluated t ∧ s.suppTested t ∧ t.supp.watch = s.supp.watch
  ∧ t.plant = (plantEvaluate (15 - t.rcv.demand) pins.chFault ((s.setRcv t.rcv).setFire t.fire)).plant
  ∧ t.limitsSafe ∧ t.contactorSafe ∧ s.gridHandedOver t
  ∧ t.indicator = s.indicator ∧ t.meas.summary = s.meas.summary ∧ t.meas.scan = s.meas.scan
  ∧ t.cell.chans = s.cell.chans ∧ t.alw.computed = s.alw.computed ∧ t.therm.base = s.therm.base
  ∧ t.retained.uptime = s.retained.uptime ∧ t.retained.releasedLatch = s.retained.releasedLatch
  ∧ t.mail.inbound = s.mail.inbound ∧ t.cont.joinRequested = s.cont.joinRequested ∧ s.claimsAgain t

/-! ### The end of a frame (R4, R6, R14) -/

/-- An own pulse waits for its echo, and its 2 µs are over (R14). -/
def Link.pulseDue (l : Link) : Prop := l.echoWait = true ∧ ∃ n, l.frameTimer = some n ∧ 2 ≤ n

/-- The drive-fault count once that pulse is counted: one more, unless the frame is a drive-fault frame without an unechoed expiry. -/
def Link.faultsDue (l : Link) : Nat := if l.frameFaulted = true ∧ l.unechoed = false then l.driveFaults else l.driveFaults + 1

/-- `g` is `s` with a pulse that is due counted. -/
def State.pulseCounted (s g : State) : Prop :=
  ¬ s.link.pulseDue ∧ g = s
    ∨ s.link.pulseDue ∧ s.link.faultsDue < 3
      ∧ g = s.setLink { s.link with driveFaults := s.link.faultsDue, frameFaulted := true, unechoed := true, echoWait := false }

/-- The outbound queue when a slot is over, `sent` the own notice that has won it: unless the end of slot bit 6 was taken before, the notice
sent leaves, with the hold-off of R44, or a withdrawn loser is removed; a candidate that stays is a notice like the others. -/
def State.slotQueue (x : State) (sent : Option OutNotice) (m : Mail) : Prop :=
  x.link.arb ≠ none ∧ m = { x.mail with outbound := x.mail.outbound.map fun n => { n with mark := .waiting } }
    ∨ x.link.arb = none ∧ sent = none
      ∧ m = { x.mail with
          outbound := (x.mail.outbound.filter fun n => n.mark != .withdrawn).map fun n => { n with mark := .waiting } }
    ∨ x.link.arb = none ∧ ∃ n, sent = some n
      ∧ m = { x.mail with
          outbound := x.mail.outbound.filter fun n => n.mark == .waiting
          holdOff := if n.priority = .safety then x.mail.holdOff else 0 }

/-- `bits` is what has been met of a part of the frame that starts at `start` and has `most` bits: bit k for each k whose middle, 8k + 4 µs
after that start, has come (R5), as the operand gives it, or quiet where it gives none. -/
def Link.lineMet (l : Link) (start most : Nat) (ldata bits : List LineBit) : Prop :=
  (∀ k, k < bits.length ↔ k < most ∧ ∃ n, l.frameTime = some n ∧ start + 8 * k + 4 ≤ n)
  ∧ ∀ k < bits.length, bits[k]? = some (ldata.getD k quietBit)

/-- The end of slot bit 6 has come, or has been taken. -/
def Link.bitSixOver (l : Link) : Prop := l.arb ≠ none ∨ ∃ n, l.frameTime = some n ∧ 1000 ≤ n

/-- The frame in progress at `x` ends at a frame arrival, with the line bits sampled by then, and no fault is found in them: `e` is the
station then, `frame` what is to be handed over (R6). An abandoned slot enqueues nothing; it has a winner only once slot bit 6 is over (R44),
and that winner takes the outcome of an ACK sampled recessive (R49). -/
def State.frameEnded (x : State) (ldata : List LineBit) (frame : Option FieldReadings) (e : State) : Prop :=
  (x.link.phase = .none ∨ x.link.phase = .sync ∨ x.link.phase = .void) ∧ frame = none ∧ e = x
  ∨ x.link.phase = .idle ∧ frame.isSome = true ∧ x.link.fields = frame ∧ e = x
  ∨ x.link.phase = .fields ∧ frame = none ∧ (∃ bits a, x.link.lineMet 48 112 ldata bits ∧ a = x.runFields bits ∧ a.stop = none
      ∧ e = x.setLink { x.link with
          fieldDrive := a.driven, driveFaults := a.faults, frameFaulted := a.marked, droveDominant := a.drove })
  ∨ x.link.phase = .slot ∧ frame.isSome = true ∧ x.link.fields = frame ∧ (∃ bits r sent d m, x.link.lineMet 944 95 ldata bits
      ∧ r = runSlot x bits ∧ r.acc.stop = none ∧ (x.link.bitSixOver ∧ sent = r.sent ∨ ¬ x.link.bitSixOver ∧ sent = none)
      ∧ d = { x.link with
          slotDrive := r.acc.driven, driveFaults := r.acc.faults, frameFaulted := r.acc.marked, droveDominant := r.acc.drove, arb := none }
      ∧ x.slotQueue sent m
      ∧ (sent = none ∧ e = (x.setLink d).setMail m
        ∨ ∃ n, sent = some n
          ∧ (n.kind ≠ .snapshotSegment ∧ n.kind ≠ .deadBusClaim
              ∧ e = (x.setLink { d with slotWon := true }).setMail { m with noticeUndelivered := m.noticeUndelivered || n.dest != 31 }
            ∨ (n.kind = .snapshotSegment ∨ n.kind = .deadBusClaim)
              ∧ e = noticeOutcome n false ((x.setLink { d with slotWon := true }).setMail m))))

/-- LINK in the frame that begins where `l` has ended: the drive-fault count is cleared by a frame whose dominant bits and own pulses were all
echoed (R13); a pulse into an already low line that is at most 2 µs old (`fresh`) belongs to the new frame; and the times of the new frame
are measured from the fall 2 µs before (R3, R4). -/
def Link.begun (l : Link) (fresh : Bool) : Link :=
  { l with
    driveFaults := if l.droveDominant && !l.frameFaulted && !l.echoWait && !l.mutePulse && (!l.lateMute || fresh) then 0 else l.driveFaults
    phase := .sync, frameTimer := some 2, frameTime := some 2, lowTime := some 2, missTimer := some 2, lsyncLow := true
    lineStuck := false, missTaken := false, droveDominant := false, frameFaulted := false, unechoed := false
    echoWait := false, mutePulse := false, lateMute := fresh, fixed := [], fields := none, slotRoom := [], arb := none, slotWon := false }

/-- The latest own pulse met an already low line and began at most 2 µs ago. -/
def Link.freshMute (l : Link) : Prop := l.lateMute = true ∧ ∃ p, l.pulse = some p ∧ p ≤ 2

/-! ### The configuration image (R189, 12.4) -/

/-- Six breakpoints that keep the conditions of R98: `temp` and `percent` by index. -/
def breakpointsSound (temp : Nat → Int) (percent : Nat → Nat) : Prop :=
  (∀ k < 6, -400 ≤ temp k ∧ temp k ≤ 1250 ∧ percent k ≤ 100) ∧ ∀ k < 5, temp k < temp (k + 1)

/-- The four checks of R189 over the bytes of 12.4, row by row: `u`, `w` and `z` are a byte, two bytes, and two bytes signed, at a place. The
membership check is not applied at address 31 (R187, log 35). -/
def imageSound (own : Nat) (img : List Byte) : Prop :=
  let u (i : Nat) : Nat := (img.getD i 0xFF#8).toNat
  let w (i : Nat) : Nat := u i * 256 + u (i + 1)
  let z (i : Nat) : Int := if w i < 32768 then w i else (w i : Int) - 65536
  crc16 (img.take 510) = BitVec.ofNat 16 (w 510) ∧ u 0 = 1
  ∧ (own ≠ 31 → (w 1 * 65536 + w 3).testBit own = true ∧ (w 1 * 65536 + w 3).testBit 31 = false)
  ∧ (∃ k < 4, u (5 + k) ≠ 255) ∧ (∀ k < 4, u (5 + k) ≤ 30 ∨ u (5 + k) = 255)
  ∧ 8 ≤ u 9 ∧ u 9 ≤ 16 ∧ u 10 ≠ 0 ∧ u 11 ≤ 1
  ∧ (∀ c < 26, w (12 + 4 * c) ≤ 32767 ∧ -512 ≤ z (14 + 4 * c) ∧ z (14 + 4 * c) ≤ 511)
  ∧ w 116 < w 118 ∧ w 118 < w 120 ∧ w 120 < w 122 ∧ w 122 ≤ 5000 ∧ u 124 ≤ 200 ∧ w 118 + 2 * u 124 < w 120
  ∧ 1 ≤ u 127 ∧ u 127 ≤ 200 ∧ w 128 ≤ 1000 ∧ 1 ≤ u 130 ∧ u 130 ≤ 8
  ∧ 1 ≤ u 131 ∧ u 131 ≤ 254 ∧ 1 ≤ u 132 ∧ u 132 ≤ 32 ∧ u 133 ≤ 100 ∧ u 134 ≤ 3
  ∧ 50 ≤ u 135 ∧ u 135 ≤ 100 ∧ 1 ≤ w 136 ∧ w 136 ≤ 4000 ∧ 500 ≤ w 138 ∧ w 138 ≤ 10000
  ∧ -200 ≤ z 140 ∧ z 140 ≤ 800 ∧ 5 ≤ u 142 ∧ u 142 ≤ 100 ∧ u 143 ≤ 50
  ∧ 1 ≤ u 144 ∧ u 144 ≤ 4 ∧ u 145 ≤ u 144 ∧ 30 ≤ w 146 ∧ w 146 ≤ 900 ∧ 10 ≤ u 148 ∧ u 148 ≤ 60
  ∧ (∀ k < 6, u (149 + k) ≤ 6 ∧ u (155 + k) ≤ 1)
  ∧ (∀ p < 4, ∀ b, b = 176 + 44 * p →
      breakpointsSound (fun k => z (b + 3 * k)) (fun k => u (b + 3 * k + 2))
      ∧ breakpointsSound (fun k => z (b + 18 + 3 * k)) (fun k => u (b + 18 + 3 * k + 2))
      ∧ w (b + 36) < w (b + 38) ∧ w (b + 38) ≤ 5000 ∧ w (b + 40) < w (b + 42) ∧ w (b + 42) ≤ 5000)

/-- The settings are those that the image stores, each at its place (12.4). -/
def storedIn (c : Config) (img : List Byte) : Prop :=
  let u (i : Nat) : Nat := (img.getD i 0xFF#8).toNat
  let w (i : Nat) : Nat := u i * 256 + u (i + 1)
  let z (i : Nat) : Int := if w i < 32768 then w i else (w i : Int) - 65536
  (∀ a < 32, c.members.getLsbD a = (w 1 * 65536 + w 3).testBit a)
  ∧ (∀ a, a ∈ c.commanders ↔ a ≠ 255 ∧ ∃ k < 4, u (5 + k) = a)
  ∧ c.cellCount = u 9 ∧ (∀ k < 8, c.tempSet.getLsbD k = (u 10).testBit k) ∧ (c.balanceDefault = true ↔ u 11 = 1)
  ∧ (∀ k < 26, c.calib[k]? = some ⟨w (12 + 4 * k), z (14 + 4 * k)⟩)
  ∧ c.lowTrip = w 116 ∧ c.lowWarn = w 118 ∧ c.highWarn = w 120 ∧ c.highTrip = w 122 ∧ c.cellHyst = u 124
  ∧ c.openWire = w 125 ∧ c.window = u 127 ∧ c.balanceTemp = w 128 ∧ c.maxBleed = u 130
  ∧ c.rated = u 131 ∧ c.riseStep = u 132 ∧ c.degradedCap = u 133 ∧ c.defaultProfile = u 134
  ∧ c.share = u 135 ∧ c.pcsMax = w 136 ∧ c.matchWindow = w 138
  ∧ c.zoneBase = z 140 ∧ c.zoneStep = u 142 ∧ c.zoneHyst = u 143 ∧ c.stageCount = u 144 ∧ c.shedLevel = u 145
  ∧ c.reconnectDelay = w 146 ∧ c.countdown = u 148
  ∧ (∀ k < 6, c.lines[k]? = some ⟨[LineType.smoke, .heat, .gas, .callpoint, .hold, .door].getD (u (149 + k)) .unused,
      if u (155 + k) = 1 then .edge else .level⟩)
  ∧ (∀ p < 4, ∀ b, b = 176 + 44 * p → ∃ f : Profile, c.profiles[p]? = some f
      ∧ (∀ k < 6, f.charge[k]? = some ⟨z (b + 3 * k), u (b + 3 * k + 2)⟩
        ∧ f.discharge[k]? = some ⟨z (b + 18 + 3 * k), u (b + 18 + 3 * k + 2)⟩)
      ∧ f.charge.length = 6 ∧ f.discharge.length = 6
      ∧ f.chargeKnee = w (b + 36) ∧ f.chargeCeiling = w (b + 38) ∧ f.dischargeFloor = w (b + 40) ∧ f.dischargeKnee = w (b + 42))

/-! ### Temperatures (R70, R71, R75) -/

/-- Temperature channel `k` takes part in Tmin and Tmax: it is in use and GOOD or HELD. -/
def State.tempShown (s : State) (k : Nat) : Prop :=
  k < 8 ∧ s.config.tempSet.getLsbD k = true
    ∧ ((s.meas.temps.getD k ⟨0, none, .unformed⟩).state = .good ∨ (s.meas.temps.getD k ⟨0, none, .unformed⟩).state = .held)

/-- What a completion leaves of the temperature channels, from the raw codes and the values of its scan: the fault count, the last good value
and the state of each channel in use (R70), and Tmin, Tmax and the expired count of the summary (R71, R75). -/
def State.tempsSettled (s : State) (raws v : List Int) (t : State) : Prop :=
  (∀ k < 8, ∀ old new : TempChan, old = s.meas.temps.getD k ⟨0, none, .unformed⟩ → new = t.meas.temps.getD k ⟨0, none, .unformed⟩ →
    (s.config.tempSet.getLsbD k = false → new = old)
    ∧ (s.config.tempSet.getLsbD k = true → ∀ raw, raw = raws.getD (16 + k) 0 →
      (50 ≤ raw ∧ raw ≤ 2000 → new = ⟨0, some (v.getD (16 + k) 0), .good⟩)
      ∧ (raw < 50 ∨ 2000 < raw → new.faultCount = min 51 (old.faultCount + 1) ∧ new.lastGood = old.lastGood
        ∧ (new.state = .held ↔ new.faultCount ≤ 50 ∧ old.lastGood ≠ none)
        ∧ (new.state = .expired ↔ new.faultCount = 51 ∨ old.lastGood = none))))
  ∧ (∀ k, t.tempShown k → t.meas.summary.tmin ≤ v.getD (16 + k) 0 ∧ v.getD (16 + k) 0 ≤ t.meas.summary.tmax)
  ∧ ((∃ k, t.tempShown k) → (∃ k, t.tempShown k ∧ t.meas.summary.tmin = v.getD (16 + k) 0)
    ∧ ∃ k, t.tempShown k ∧ t.meas.summary.tmax = v.getD (16 + k) 0)
  ∧ ((∀ k, ¬ t.tempShown k) → t.meas.summary.tmin = -400 ∧ t.meas.summary.tmax = 1250)
  ∧ t.meas.summary.expired = ((List.range 8).filter fun k => s.config.tempSet.getLsbD k
      && decide ((t.meas.temps.getD k ⟨0, none, .unformed⟩).state = .expired)).length

/-! ### ISOLATE at a tick (R126, R127) -/

/-- CONT at an indicator tick that reads ISOLATE: the debounced level takes the second of two equal reads; a press clears the join request,
which opens the rack, and starts the hold at 1 tick; a release ends it; otherwise it counts the tick. -/
def Cont.isolateReads (c : Cont) (read : Bool) (d : Cont) : Prop :=
  let level := if read = c.isolateRead then read else c.isolateLevel
  let press := decide (level = true ∧ c.isolateLevel = false)
  ∀ b, b = { c with
      isolateRead := read, isolateLevel := level
      holdTicks := if press then some 1 else if level = c.isolateLevel then c.holdTicks.map (· + 1) else none } →
    (press = false → d = b)
    ∧ (press = true →
      (c.state = .waitMatch ∨ c.state = .claiming →
        d = { b with joinRequested := false, state := .rackOpen, closeTimer := none, openTimer := none, matchCount := 0 })
      ∧ (c.state = .closing ∨ c.state = .closed → c.auxClosed = true →
        d = { b with joinRequested := false, state := .opening, closeTimer := none, openTimer := some 0, matchCount := 0 })
      ∧ (c.state = .closing ∨ c.state = .closed → c.auxClosed = false →
        d = { b with
          joinRequested := false, state := if c.lockout then .lockout else .rackOpen
          closeTimer := none, openTimer := none, matchCount := 0 })
      ∧ (c.state = .rackOpen ∨ c.state = .opening ∨ c.state = .welded ∨ c.state = .lockout →
        d = { b with joinRequested := false }))

/-! ### A completed trip (R180) -/

/-- What the completion of a trip with a cause leaves, breaker read open: `s` is the station at that instant. The record and the
TRIP_REPORT, close-requested by the cause, the reconnect timer, and the entry to OPEN by R175. -/
def State.tripCompleted (s : State) (cause : TripCause) (t : State) : Prop :=
  let records := (if s.retained.records.length < 8 then s.retained.records
      else s.retained.records.drop (s.retained.records.length - 7)) ++ [⟨cause, s.retained.uptime, false⟩]
  let request := s.grid.closeRequested && (cause == .gridLoss || cause == .permitLoss)
  t.retained = { s.retained with records := records }
    ∧ t.grid.tripCause = none ∧ t.grid.closePulse = none ∧ t.grid.closeTimer = none
    ∧ t.grid.reconnect = (if s.grid.gridOk then some 0 else none)
    ∧ (3 ≤ t.retained.lockoutRecords → t.grid.state = .recloseLockout ∧ t.grid.closeRequested = false)
    ∧ (t.retained.lockoutRecords < 3 → t.grid.closeRequested = request
        ∧ t.grid.state = (if request then .reconnectWait else .brkOpen))
    ∧ t.alw.limits = ⟨0, 0⟩ ∧ t.alw.duties = ⟨0, 0⟩ ∧ t.alw.published = s.alw.published
    ∧ (s.link.state ≠ .fault → s.mail.outbound.length ≤ 6 →
        (⟨.data, 31, .tripReport, BitVec.ofNat 8 cause.code :: bytes32 s.retained.uptime.toNat, .grid, .waiting⟩ : OutNotice)
          ∈ t.mail.outbound)
    ∧ t.link = s.link ∧ t.rcv = s.rcv ∧ t.fire = s.fire ∧ t.supp = s.supp ∧ t.cell = s.cell ∧ t.plant = s.plant
    ∧ t.therm = s.therm

/-! ### The wire of a slot (R41, 12.2) -/

/-- The line bits of a slot in which another station, at `source`, sends a notice: its bits from PRIORITY to CHECK, then turnaround and
ACK undriven by it. A dominant bit is the value 0. -/
def slotWire (source : Nat) (n : OutNotice) : List LineBit :=
  ((bitsOf 2 n.priority.code ++ bitsOf 5 source ++ noticeBits source n).map fun v => ⟨!v, false⟩) ++ [quietBit, quietBit]

/-- The notice a receiver should take from that wire. -/
def wiredNotice (source : Nat) (n : OutNotice) : InNotice where
  priority := n.priority.code
  source := source
  dest := n.dest
  kind := n.kind.code
  payload := n.payload
  check := (crc8 (coveredBits n.priority.code source n.dest n.kind.code n.payload)).toNat

/-- Peers that together contribute `p` to a `w`-bit field in which this station contributes `v` (R21): they pull a bit low where `p` has
a 0, unless they have dropped out before, at a higher bit where `v` had a 0 and `p` a 1, so that `p` exceeds `v` over the bits above. -/
def peersLine (v p : Nat) : Nat → List LineBit
  | 0 => []
  | w + 1 => ⟨decide (p / 2 ^ (w + 1) ≤ v / 2 ^ (w + 1)) && !p.testBit w, false⟩ :: peersLine v p w

end Sys2Proof.Machine
end

