-- ==== Sys2Proof/Certificates/Slice0/Obligations.lean ====
section
/-! DEFINITION. The statements for the provers. In each statement about a command `c` with operand `dt`, `s.elapse dt` is the station after the
time `dt` has passed, with every timer advanced (TimePassesForRunningTimersAlone says what that is); a conclusion `exec c s = .next (…)` gives
the whole next state, so it is also the command's frame. A command about a notice is stated for the head `n` of the inbound queue. -/

open Sys2Proof Sys2Proof.Machine

/-! ### Step, time, supply -/

/-- A step takes the command at the front of the queue and runs it with the queue's rest; on an empty queue the station idles, which is the
model's choice (log 1). -/
def Obligations.StepRunsTheFrontCommand : Prop :=
  (∀ (s : State) (c : Instr) (rest : List Instr), s.pending = c :: rest → step s = exec c (s.setPending rest))
  ∧ (∀ s : State, s.pending = [] → step s = .next s)

/-- No command touches the queue of commands. -/
def Obligations.CommandsLeaveTheCommandQueue : Prop :=
  ∀ (c : Instr) (s t : State), exec c s = .next t → t.pending = s.pending

/-- The model's form of R2 (log 1): `d` µs advance every running timer and every input's age by `d`, leave a stopped timer stopped, run the
countdown down while it is not held, end the instant of a failed close, and fix what begins in that time: in FIELDS the contribution of each
entry whose bits begin, as its block publishes it then (R5, R19; an entry that begins at the very instant of a command is read before that
command's change, log 9), and in SLOT the room for each ACK bit that begins (R47). Nothing else changes. -/
def Obligations.TimePassesForRunningTimersAlone : Prop :=
  ∀ (d : Nat) (s : State),
    (s.elapse d =
      { s with
        indicator := { s.indicator with tickTime := s.indicator.tickTime + d }
        link := { s.link with
          pulse := s.link.pulse.map (· + d), silence := s.link.silence.map (· + d)
          frameTimer := s.link.frameTimer.map (· + d), frameTime := s.link.frameTime.map (· + d)
          lowTime := s.link.lowTime.map (· + d), missTimer := s.link.missTimer.map (· + d)
          fixed := s.fixedAfter d, slotRoom := s.roomAfter d }
        meas := { s.meas with
          scanTimer := s.meas.scanTimer.map (· + d)
          scan := s.meas.scan.map fun c => { c with time := c.time + d } }
        cont := { s.cont with
          closeTimer := s.cont.closeTimer.map (· + d), openTimer := s.cont.openTimer.map (· + d)
          claimSeen := s.cont.claimSeen.map (· + d), auxAge := s.cont.auxAge + d
          closeExpired := s.cont.closeExpired && decide (d = 0) }
        plant := { s.plant with
          stages := s.plant.stages.map fun g => { g with onTime := g.onTime.map (· + d), offTime := g.offTime + d }
          stagger := s.plant.stagger.map (· + d) }
        supp := { s.supp with
          remaining := if s.supp.releasePending = true ∧ s.supp.held = false then s.supp.remaining - d else s.supp.remaining
          relPulse := s.supp.relPulse.map (· + d), watch := s.supp.watch.map (· + d) }
        grid := { s.grid with
          reconnect := s.grid.reconnect.map (· + d), closePulse := s.grid.closePulse.map (· + d)
          closeTimer := s.grid.closeTimer.map (· + d), tripTimer := s.grid.tripTimer.map (· + d)
          gridOkAge := s.grid.gridOkAge + d, brkAuxAge := s.grid.brkAuxAge + d, pcsReadyAge := s.grid.pcsReadyAge + d } })
    ∧ (s.link.state ≠ .active ∨ s.link.phase ≠ .fields → s.fixedAfter d = s.link.fixed)
    ∧ (∀ n k, s.link.state = .active → s.link.phase = .fields → s.link.frameTime = some n → k ≤ s.fieldPlan.length →
        (∀ j < k, 48 + 8 * ((s.fieldPlan.take j).map (·.1)).sum ≤ n + d) →
        (k < s.fieldPlan.length → n + d < 48 + 8 * ((s.fieldPlan.take k).map (·.1)).sum) →
        s.fixedAfter d = s.link.fixed ++ (s.fieldPlan.take k).drop s.link.fixed.length)
    ∧ (s.link.state ≠ .active ∨ s.link.phase ≠ .slot → s.roomAfter d = s.link.slotRoom)
    ∧ (∀ n, s.link.state = .active → s.link.phase = .slot → s.link.frameTime = some n →
        s.roomAfter d = s.link.slotRoom ++ List.replicate
          (((List.range 9).filter fun l => decide (944 + 8 * (30 + 8 * l) ≤ n + d)).length - s.link.slotRoom.length)
          (decide (s.mail.inbound.length < 4)))

/-! ### Resets and start-up -/

/-- After a power-on reset every item has the value its chapter gives. -/
def Obligations.PowerOnResetGivesFirstValues : Prop :=
  ∀ (pins : ResetPins) (s : State), ∃ t, exec (.powerOnReset pins) s = .next t
    ∧ t.powered = true ∧ t.pending = s.pending
    ∧ t.retained = ⟨[], 0, false⟩
    ∧ t.cfg.address = pins.address ∧ t.cfg.straps = ⟨pins.rolePlant, pins.roleGrid, pins.roleSupp⟩
    ∧ t.cfg.loaded = none ∧ t.cfg.yielded = ⟨false, false, false⟩ ∧ t.cfg.roleYielded = false
    ∧ t.cfg.rivals = ⟨none, none, none⟩ ∧ t.cfg.reclaim = [] ∧ t.configInvalid = false
    ∧ (t.strapInvalid = true ↔ pins.address = 31#5)
    ∧ t.link.state = .listening ∧ t.link.faultReason = none ∧ t.link.phase = .none ∧ t.link.lsyncDriven = false
    ∧ t.link.silence = some 0 ∧ t.link.frameTimer = none ∧ t.link.frameTime = none ∧ t.link.missTimer = none
    ∧ t.link.lineStuck = false ∧ t.link.frameCounter = 0 ∧ t.link.driveFaults = 0
    ∧ t.link.echoWait = false ∧ t.link.mutePulse = false ∧ t.link.lateMute = false ∧ t.link.fixed = [] ∧ t.link.slotRoom = []
    ∧ t.link.arb = none ∧ t.link.lsyncLow = pins.lsyncLow ∧ t.link.lowTime = (if pins.lsyncLow then some 0 else none)
    ∧ t.rcv = ⟨0, 0, false, false, 255, 255, 15, .normal, 31, false, false, none⟩
    ∧ t.monitor = ⟨List.replicate 32 0, List.replicate 32 100, false⟩
    ∧ t.mail = ⟨[], [], 2, none, false, false, false⟩
    ∧ t.meas.scanTimer = none ∧ t.meas.scan = none ∧ t.meas.sensorFault = false
    ∧ t.meas.summary = ⟨0, 0, 0, -400, 1250, 0, 0, 0, false⟩
    ∧ t.meas.page0 = ⟨List.replicate 26 0, 0⟩ ∧ t.meas.page1 = ⟨List.replicate 26 0, 0⟩ ∧ t.meas.readOne = true
    ∧ t.meas.pageHold = false ∧ t.meas.scanNumber = 0
    ∧ (∀ x ∈ t.meas.temps, x.faultCount = 0 ∧ x.lastGood = none)
    ∧ (∀ x ∈ t.cell.chans, x = ⟨.normal, 0, 0, 0, 0, .none⟩) ∧ t.cell.overCount = 0 ∧ t.cell.overcurrent = false
    ∧ t.bleedCount = 0
    ∧ t.alw.pendingProfile = none ∧ t.alw.computed = ⟨0, 0⟩ ∧ t.alw.published = ⟨0, 0⟩ ∧ t.alw.limits = ⟨0, 0⟩
    ∧ t.alw.duties = ⟨0, 0⟩
    ∧ t.cont.state = (if pins.contAux then .opening else .rackOpen)
    ∧ t.cont.openTimer = (if pins.contAux then some 0 else none)
    ∧ t.cont.auxClosed = pins.contAux ∧ t.cont.auxAge = 0 ∧ t.cont.closeExpired = false
    ∧ t.cont.isolateRead = pins.isolate ∧ t.cont.isolateLevel = false ∧ t.cont.joinRequested = false
    ∧ t.cont.closeTimer = none ∧ t.cont.claimSeen = none ∧ t.cont.matchCount = 0
    ∧ t.cont.holdTicks = none ∧ t.cont.lockout = false ∧ t.cont.closeFail = false ∧ t.cont.welded = false
    ∧ t.therm = ⟨0, 0, false, 0, false⟩
    ∧ t.plant = ⟨List.replicate 4 ⟨false, none, false, 0, false⟩, none, false, false, 0⟩
    ∧ t.fire = ⟨List.replicate 6 ⟨.normal, none, false, false⟩, false, .normal⟩
    ∧ t.supp = ⟨false, 0, false, none, none, false⟩
    ∧ t.grid.running = false ∧ t.grid.closeRequested = false ∧ t.grid.permitCount = 0 ∧ t.grid.presentCount = 0
    ∧ t.grid.reconnect = none ∧ t.grid.closeTimer = none ∧ t.grid.tripTimer = none
    ∧ t.indicator = ⟨0, 0, false, false⟩

/-- A pin reset leaves what a power-on reset leaves, but that it keeps the retained domain. -/
def Obligations.PinResetDiffersInTheRetainedDomainAlone : Prop :=
  ∀ (pins : ResetPins) (s : State), s.powered = true → ∃ t, exec (.powerOnReset pins) s = .next t
    ∧ t.retained = ⟨[], 0, false⟩ ∧ exec (.pinReset pins) s = .next (t.setRetained s.retained)

/-- Loss of supply: every output pin is inactive, and the retained domain is gone. From then on nothing acts until a power-on reset. That
the retained domain reads empty at once, and that every other command, PIN_RESET too, leaves the unpowered station as it is, is the model's
choice (log 15). -/
def Obligations.SupplyLossReleasesEveryOutput : Prop :=
  (∀ s : State, ∃ t, exec .supplyLoss s = .next t ∧ t.powered = false ∧ t.pending = s.pending ∧ t.retained = ⟨[], 0, false⟩
    ∧ t.link.fieldDrive = [] ∧ t.link.slotDrive = []
    ∧ t.outputs = ⟨false, List.replicate 16 false, false, 0, false, false, List.replicate 4 false, false, false, false, false,
        0, 0, false⟩)
  ∧ (∀ (c : Instr) (s : State), s.powered = false → (∀ pins, c ≠ .powerOnReset pins) → c ≠ .supplyLoss → exec c s = .next s)

/-- The station after reset meets every invariant stated below. -/
def Obligations.ResetMeetsTheInvariants : Prop :=
  State.reset.contactorSafe ∧ State.reset.breakerSafe ∧ State.reset.queuesSafe ∧ State.reset.countsSafe ∧ State.reset.bleedSafe
    ∧ State.reset.allowanceSafe ∧ State.reset.limitsSafe ∧ State.reset.plantSafe

/-- The configuration read completes: the 512 bytes are kept (FFh where the memory answers none), the four checks of R189, each spelled out
over the bytes, decide which settings are in use: those that the image stores at the places of 12.4, or the built-in set. MEAS starts its
first scan and GRID starts where it is held, in this same step (log 12: the model's reading); the link, the record and the plant are left.
That an image with membership bit 31 set passes at address 31 is the model's choice (log 35). -/
def Obligations.ConfigReadSettlesTheSettings : Prop :=
  ∀ (dt : Nat) (image : List Byte) (pins : GridPins) (s : State), s.powered = true → s.cfg.loaded = none → s.breakerSafe →
    ∃ t, exec (.configReadComplete dt image pins) s = .next t
      ∧ t.cfg.image.length = 512 ∧ (∀ i < 512, t.cfg.image.getD i 0 = image.getD i 0xFF#8)
      ∧ (t.cfg.valid = true ↔ imageSound s.own t.cfg.image) ∧ t.readDone = true
      ∧ (t.cfg.valid = true → storedIn t.config t.cfg.image) ∧ (t.cfg.valid = false → t.cfg.loaded = some (builtIn s.own))
      ∧ t.cfg.address = s.cfg.address ∧ t.cfg.straps = s.cfg.straps ∧ t.cfg.yielded = s.cfg.yielded
      ∧ t.meas.scanTimer = some 0 ∧ t.meas.scan = some ⟨0, 0, List.replicate 26 0⟩ ∧ t.bleedCount = 0
      ∧ t.alw.active = t.config.defaultProfile ∧ t.cell.balanceEnable = t.config.balanceDefault
      ∧ (s.cfg.straps.grid = true → s.cfg.yielded.grid = false → t.cfg.valid = true →
          t.grid.running = true ∧ t.grid.gridOk = pins.gridOk ∧ t.grid.brkAux = pins.brkAux ∧ t.grid.pcsReady = pins.pcsReady
          ∧ t.grid.gridOkAge = 0 ∧ t.grid.brkAuxAge = 0 ∧ t.grid.pcsReadyAge = 0
          ∧ t.grid.reconnect = (if pins.gridOk then some 0 else none)
          ∧ (pins.brkAux = true → t.grid.state = .tripping ∧ t.grid.tripCause = some .restart ∧ t.grid.tripTimer = some 0)
          ∧ (pins.brkAux = false → 3 ≤ s.retained.lockoutRecords → t.grid.state = .recloseLockout)
          ∧ (pins.brkAux = false → s.retained.lockoutRecords < 3 → s.grid.closeRequested = false → t.grid.state = .brkOpen))
      ∧ (s.cfg.straps.grid = false ∨ t.cfg.valid = false → t.grid.running = false)
      ∧ t.link = (s.elapse dt).link ∧ t.rcv = s.rcv ∧ t.monitor = s.monitor ∧ t.mail = s.mail ∧ t.cont = (s.elapse dt).cont
      ∧ t.therm = s.therm ∧ t.plant = (s.elapse dt).plant ∧ t.fire = s.fire ∧ t.supp = (s.elapse dt).supp
      ∧ t.retained = s.retained ∧ t.meas.summary = s.meas.summary

/-- A memory that does not answer: every byte reads FFh, the image is invalid, and the station runs on the built-in set. -/
def Obligations.SilentMemoryGivesTheBuiltInSet : Prop :=
  ∀ (dt : Nat) (pins : GridPins) (s : State), s.powered = true → s.cfg.loaded = none → s.own ≤ 30 →
    ∃ t, exec (.configReadComplete dt [] pins) s = .next t ∧ t.configInvalid = true
      ∧ t.holds .grid = false ∧ t.holds .supp = false ∧ (t.holds .plant = true ↔ s.holds .plant = true)
      ∧ (∀ a < 32, t.config.members.getLsbD a = true ↔ a = s.own) ∧ t.config.commanders = [0]
      ∧ t.config.cellCount = 16 ∧ (∀ k < 8, t.config.tempSet.getLsbD k = true)
      ∧ t.config.calib = List.replicate 26 ⟨16384, 0⟩
      ∧ t.config.lowTrip = 2800 ∧ t.config.lowWarn = 2950 ∧ t.config.highWarn = 3550 ∧ t.config.highTrip = 3650
      ∧ t.config.cellHyst = 50 ∧ t.config.openWire = 2000 ∧ t.cell.balanceEnable = false
      ∧ t.config.window = 15 ∧ t.config.balanceTemp = 450 ∧ t.config.maxBleed = 4
      ∧ t.config.rated = 1 ∧ t.config.riseStep = 4 ∧ t.config.degradedCap = 50 ∧ t.alw.active = 0
      ∧ t.config.zoneBase = 250 ∧ t.config.zoneStep = 20 ∧ t.config.zoneHyst = 10
      ∧ t.config.stageCount = 1 ∧ t.config.shedLevel = 1 ∧ t.config.lines = List.replicate 6 ⟨.smoke, .level⟩
      ∧ t.config.countdown = 30 ∧ t.config.reconnectDelay = 300 ∧ t.config.share = 90 ∧ t.config.pcsMax = 1
      ∧ t.config.matchWindow = 2000

/-! ### Ticks -/

/-- An indicator tick that is due: it is counted, every 100th makes an uptime tick due, and ALERT is set from the conditions of R195 by the
patterns of R196; that ALERT follows the conditions as the whole tick leaves them is the model's choice where R196 allows either order (log
6). That the uptime tick is marked here and taken by its own command is the model's reading (log 17). ISOLATE is read: a press clears the join
request, in LOCKOUT too, which is the model's choice (log 32: R126 clears it in every state, R127 has a press change nothing there), opens the
rack and starts the hold, a release ends it, and any other tick counts it (R126, R127). At a press in CLAIMING the claim is withdrawn (log 30
for a second withdrawal in one slot, log 40 for where it leaves the queue). REL_CONF ends a running watch. In LISTENING and FAULT, once the
configuration read is complete, FIRE samples its lines, and SUPP makes its tests; in peer loss SUPP makes the hold test alone; otherwise a
tick is none of theirs. -/
def Obligations.IndicatorTickFormsAlert : Prop :=
  ∀ (dt : Nat) (pins : TickPins) (s e : State), s.powered = true → 10000 ≤ s.indicator.tickTime + dt → e = s.elapse dt →
    ∃ t, exec (.indicatorTick dt pins) s = .next t
      ∧ t.indicator.ticks = s.indicator.ticks + 1 ∧ t.indicator.tickTime = s.indicator.tickTime + dt - 10000
      ∧ (t.indicator.uptimeDue = true ↔ s.indicator.uptimeDue = true ∨ (s.indicator.ticks + 1) % 100 = 0)
      ∧ (∀ steady fast slow : Prop,
          (steady ↔ t.fire.localStage ≠ .normal ∨ t.rcv.stage ≠ .normal ∨ t.holds .supp = true ∧ t.publishedStage ≠ .normal) →
          (fast ↔ t.anyTrip = true ∨ t.cont.welded = true
            ∨ t.grid.running = true ∧ (t.grid.state = .breakerFault ∨ t.grid.state = .recloseLockout)
            ∨ t.configInvalid = true ∨ t.link.state = .fault ∨ t.cont.lockout = true ∨ t.supp.releaseFault = true ∨ t.own = 31) →
          (slow ↔ t.anyWarn = true ∨ (∃ l ∈ t.fire.lines, l.lineFault = true) ∨ t.meas.sensorFault = true
            ∨ t.memberMissing = true ∨ t.monitor.stranger = true ∨ t.cont.closeFail = true ∨ t.cell.overcurrent = true
            ∨ t.mail.noticeUndelivered = true ∨ t.mail.outboundDropped = true ∨ t.mail.inboundOverrun = true
            ∨ t.cfg.roleYielded = true ∨ t.link.lineStuck = true) →
          (t.indicator.alert = true ↔ steady ∨ fast ∧ (s.indicator.ticks + 1) / 8 % 2 = 0
            ∨ ¬ fast ∧ slow ∧ (s.indicator.ticks + 1) / 32 % 2 = 0))
      ∧ t.outputs.alert = t.indicator.alert
      ∧ (s.contactorSafe → e.cont.isolateReads pins.isolate t.cont)
      ∧ (s.link.state = .active → t.mail = { s.mail with
          outbound := if pins.isolate = true ∧ s.cont.isolateRead = true ∧ s.cont.isolateLevel = false ∧ s.cont.state = .claiming
            then withdrawFirst s.mail.outbound else s.mail.outbound })
      ∧ t.supp.watch = (if pins.relConf then none else e.supp.watch)
      ∧ (s.link.state = .active ∨ s.readDone = false → t.fire = s.fire)
      ∧ (s.link.state ≠ .active → s.readDone = true → s.linesSampled pins.loops t ∧ s.stageEvaluated t)
      ∧ (s.link.state ≠ .active → e.suppTested t)
      ∧ (s.link.state = .active → s.peerLoss = true → s.holds .supp = true → s.readDone = true →
          s.retained.releasedLatch = false → s.supp.releasePending = true → e.holdTested t)
      ∧ (s.link.state = .active → s.peerLoss = false ∨ s.supp.releasePending = false → t.supp = { e.supp with watch := t.supp.watch })
      ∧ t.link = (s.elapse dt).link ∧ t.rcv = s.rcv ∧ t.monitor = s.monitor ∧ t.plant = (s.elapse dt).plant
      ∧ t.grid = (s.elapse dt).grid ∧ t.retained = s.retained ∧ t.cell.chans = s.cell.chans
      ∧ t.alw.computed = s.alw.computed ∧ t.meas.summary = s.meas.summary

/-- An uptime tick that is due advances the uptime seconds by one, modulo 2^32, and nothing else. -/
def Obligations.UptimeTickAdvancesTheSeconds : Prop :=
  ∀ (dt : Nat) (s : State), s.powered = true → s.indicator.uptimeDue = true →
    exec (.uptimeTick dt) s = .next
      (((s.elapse dt).setIndicator { (s.elapse dt).indicator with uptimeDue := false }).setRetained
        { s.retained with uptime := s.retained.uptime + 1 })

/-! ### LINK: LSYNC and the frame timer -/

/-- LSYNC low for more than 1 ms sets LINE_STUCK, from 1001 µs on and not before (log 43: that exactly 1.000 ms does not set it is the model's
choice); a rise ends the low period and the missing-frame deadline and keeps LINE_STUCK; the own pulse, which pulls LSYNC low, ends at 40 µs;
SYNC ends at 48 µs in FIELDS or in VOID. -/
def Obligations.LsyncLevelsDriveTheFramePhases : Prop :=
  ∀ (dt : Nat) (s : State), s.powered = true →
    (∀ n, s.link.state ≠ .fault → s.link.lsyncLow = true → s.link.lowTime = some n → 1000 < n + dt →
      exec (.lineStuckDetect dt) s = .next ((s.elapse dt).setLink { (s.elapse dt).link with lineStuck := true }))
    ∧ (∀ n, s.link.lowTime = some n → n + dt ≤ 1000 → exec (.lineStuckDetect dt) s = .next (s.elapse dt))
    ∧ exec (.lsyncRise dt) s = .next ((s.elapse dt).setLink
        { (s.elapse dt).link with lsyncLow := false, lowTime := none, missTimer := none })
    ∧ (∀ n, s.link.pulse = some n → 40 ≤ n + dt →
      exec (.lsyncPulseEnd dt) s = .next ((s.elapse dt).setLink { (s.elapse dt).link with lsyncDriven := false, pulse := none }))
    ∧ s.outputs.lsyncLow = s.link.lsyncDriven
    ∧ (∀ n, s.link.state = .active → s.link.phase = .sync → s.link.frameTime = some n → 48 ≤ n + dt →
      exec (.syncPhaseEnd dt) s = .next ((s.elapse dt).setLink
        { (s.elapse dt).link with phase := if s.link.lsyncLow then .void else .fields }))

/-- The frame timer expires at 10 ms + 4 µs × own address: the timer restarts and the pulse is driven. An echo makes the low period that
the fall opens; with LSYNC already low the pulse is kept as one that was not echoed, and no count changes; a pulse that is not echoed waits
for its 2 µs. At their end, which is the same command given again (log 39: the model's reading), it marks the frame and counts, unless the
frame was already marked and no unechoed expiry came before, and at a count of 3 the station enters FAULT; before their end only time passes.
A pulse that still waits at the next expiry is counted first. -/
def Obligations.FrameTimerExpiryDrivesThePulse : Prop :=
  ∀ (dt n : Nat) (line : ExpiryLine) (s e : State), s.powered = true → s.link.state = .active → s.link.frameTimer = some n →
    e = s.elapse dt →
    (∀ b u, e.pulseCounted b → 10000 + 4 * s.own ≤ n + dt →
      u = b.setLink { b.link with
        frameTimer := some 0, lsyncDriven := true, pulse := some 0, mutePulse := s.link.mutePulse || s.link.lateMute, lateMute := false } →
      (s.link.lsyncLow = false → line = .echoed → exec (.frameTimerExpiry dt line) s = .next (u.setLink
        { u.link with lsyncLow := true, lowTime := some 0, missTimer := some 0 }))
      ∧ (s.link.lsyncLow = false → line = .unechoed → exec (.frameTimerExpiry dt line) s = .next (u.setLink
        { u.link with echoWait := true }))
      ∧ (s.link.lsyncLow = true ∨ line = .alreadyLow → exec (.frameTimerExpiry dt line) s = .next (u.setLink
        { u.link with lateMute := true })))
    ∧ (∀ u, e.link.pulseDue →
      u = e.setLink { e.link with driveFaults := e.link.faultsDue, frameFaulted := true, unechoed := true, echoWait := false } →
      (e.link.faultsDue < 3 → n + dt < 10000 + 4 * s.own → exec (.frameTimerExpiry dt line) s = .next u)
      ∧ (3 ≤ e.link.faultsDue → exec (.frameTimerExpiry dt line) s = .next (enterFault .driveFault u)))
    ∧ (¬ e.link.pulseDue → n + dt < 10000 + 4 * s.own → exec (.frameTimerExpiry dt line) s = .next e)

/-- Entry to FAULT: both lines released, timers stopped, queues emptied, readout ended, limits 0/0. The rack opens: CLOSING and CLOSED go to
OPENING with the open timer running, or through it where CONT_AUX reads open, WAIT_MATCH and CLAIMING go to OPEN (R125, R128). A closing or
closed breaker trips with PERMIT_LOSS: TRIPPING with the trip timer and BRK_TRIP, or, where BRK_AUX already reads open, the completed trip
with its record (R178 to R180, R185). The record, the monitor and the counts of the other blocks are left. -/
def Obligations.EntryToFaultReleasesTheStation : Prop :=
  ∀ (reason : FaultReason) (s t : State), t = enterFault reason s →
    t.link.state = .fault ∧ t.link.faultReason = some reason ∧ t.link.lsyncDriven = false ∧ t.link.frameTimer = none
      ∧ t.link.phase = .none ∧ t.link.missTimer = none ∧ t.link.fixed = [] ∧ t.link.echoWait = false ∧ t.link.arb = none
      ∧ t.link.lineStuck = s.link.lineStuck
      ∧ t.link.frameCounter = s.link.frameCounter
      ∧ t.mail.outbound = [] ∧ t.mail.inbound = [] ∧ t.mail.readout = none ∧ t.meas.pageHold = false
      ∧ t.mail.outboundDropped = s.mail.outboundDropped
      ∧ t.cont.state.coil = false ∧ t.cont.state ≠ .waitMatch ∧ t.cont.state ≠ .claiming
      ∧ t.cont.joinRequested = s.cont.joinRequested
      ∧ (s.cont.state = .closing ∨ s.cont.state = .closed →
        (s.cont.auxClosed = true → t.cont =
          { s.cont with state := .opening, closeTimer := none, openTimer := some 0, matchCount := 0 })
        ∧ (s.cont.auxClosed = false → t.cont =
          { s.cont with
            state := if s.cont.lockout then .lockout else .rackOpen
            closeTimer := none, openTimer := none, matchCount := 0 }))
      ∧ (s.cont.state = .waitMatch ∨ s.cont.state = .claiming → t.cont =
          { s.cont with state := .rackOpen, closeTimer := none, openTimer := none, matchCount := 0 })
      ∧ (s.cont.state = .rackOpen ∨ s.cont.state = .opening ∨ s.cont.state = .welded ∨ s.cont.state = .lockout → t.cont = s.cont)
      ∧ (s.grid.running = true → t.grid.permitCount = 0 ∧ t.grid.state.engaged = false)
      ∧ (s.grid.running = true → s.grid.state ≠ .closing → s.grid.state ≠ .closed →
          t.grid = { s.grid with permitCount := 0 } ∧ t.retained = s.retained)
      ∧ (s.grid.running = true → s.grid.state = .closing ∨ s.grid.state = .closed →
        t.outputs.brkTrip = true ∧ t.outputs.brkClose = false ∧ t.outputs.pcsEn = false
        ∧ (s.grid.brkAux = true → t.retained = s.retained ∧ t.grid =
          { s.grid with
            permitCount := 0, state := .tripping, tripTimer := some 0, tripCause := some .permitLoss
            closePulse := none, closeTimer := none })
        ∧ (s.grid.brkAux = false →
          t.retained = { s.retained with records := (if s.retained.records.length < 8 then s.retained.records
            else s.retained.records.drop (s.retained.records.length - 7)) ++ [⟨.permitLoss, s.retained.uptime, false⟩] }
          ∧ t.grid =
            { s.grid with
              permitCount := 0, tripTimer := some 0, tripCause := none, closePulse := none, closeTimer := none
              reconnect := if s.grid.gridOk then some 0 else none
              closeRequested := s.grid.closeRequested && decide (t.retained.lockoutRecords < 3)
              state := if 3 ≤ t.retained.lockoutRecords then .recloseLockout
                else if s.grid.closeRequested then .reconnectWait else .brkOpen }))
      ∧ (s.grid.running = false → t.grid = s.grid ∧ t.retained = s.retained)
      ∧ t.alw.limits = ⟨0, 0⟩ ∧ t.alw.duties = ⟨0, 0⟩
      ∧ t.rcv = s.rcv ∧ t.monitor = s.monitor ∧ t.cell = s.cell ∧ t.therm = s.therm ∧ t.plant = s.plant ∧ t.fire = s.fire
      ∧ t.supp = s.supp ∧ t.retained.releasedLatch = s.retained.releasedLatch ∧ t.alw.published = s.alw.published

/-- The silence timer at 30 ms: with the configuration read and a valid address the station enters ACTIVE, its frame timer expires at
once, with its pulse echoed, not echoed or driven into a low line, and CFG has handed LINK a claim for each role held. That the expiry is part
of this step is the model's reading (log 11). -/
def Obligations.SilenceLimitMakesTheStationActive : Prop :=
  ∀ (dt n : Nat) (line : ExpiryLine) (s : State), s.powered = true → s.link.state = .listening → s.readDone = true → s.own ≤ 30 →
    s.link.silence = some n → 30000 ≤ n + dt → s.mail.outbound.length ≤ 5 →
    ∃ t, exec (.silenceLimit dt line) s = .next t
      ∧ t.link.state = .active ∧ t.link.silence = none ∧ t.link.driveFaults = 0 ∧ t.link.phase = .none
      ∧ t.link.frameTimer = some 0 ∧ t.link.lsyncDriven = true ∧ t.link.pulse = some 0
      ∧ (t.link.lsyncLow = true ↔ s.link.lsyncLow = true ∨ line = .echoed)
      ∧ (t.link.echoWait = true ↔ s.link.lsyncLow = false ∧ line = .unechoed)
      ∧ (t.link.lateMute = true ↔ s.link.lsyncLow = true ∨ line = .alreadyLow)
      ∧ t.link.frameCounter = s.link.frameCounter ∧ t.mail.holdOff = 2 ∧ t.mail.inbound = s.mail.inbound
      ∧ (∀ r, s.holds r = true → claimNotice r (s.inOperation r) ∈ t.mail.outbound)
      ∧ (∀ m ∈ s.mail.outbound, m ∈ t.mail.outbound)
      ∧ t.rcv = s.rcv ∧ t.monitor = s.monitor ∧ t.cont = (s.elapse dt).cont ∧ t.grid = (s.elapse dt).grid
      ∧ t.alw = s.alw ∧ t.retained = s.retained

/-- A fall in LISTENING restarts the silence timer and clears LINE_STUCK. Before the configuration is read, or at address 31, that is
all; otherwise the station is ACTIVE at that frame arrival, with a ROLE_CLAIM queued for each role held (R192), and hands over a missing
frame. That the silence timer counts from the fall's
instant, 2 µs before its recognition, is the model's reading (log 5). -/
def Obligations.ListeningFallRestartsOrActivates : Prop :=
  ∀ (dt : Nat) (pins : HandOverPins) (s : State), s.powered = true → s.link.state = .listening →
    (s.readDone = false ∨ s.own = 31 → exec (.listeningFall dt pins) s = .next ((s.elapse dt).setLink
      { (s.elapse dt).link with lineStuck := false, silence := some 2, lsyncLow := true, lowTime := some 2 }))
    ∧ (s.readDone = true → s.own ≤ 30 → ∃ t, exec (.listeningFall dt pins) s = .next t
        ∧ t.link.state = .active ∧ t.link.phase = .sync ∧ t.link.frameTimer = some 2 ∧ t.link.frameTime = some 2
        ∧ t.link.silence = none ∧ t.link.lineStuck = false ∧ t.link.driveFaults = 0
        ∧ t.link.frameCounter = s.link.frameCounter + 1 ∧ t.mail.holdOff = 2
        ∧ t.rcv = { s.rcv with presence := 0, closed := 0, permit := false, hold := false, chg := 255, dis := 255, prev := none }
        ∧ (s.mail.outbound.length ≤ 2 → ∀ r, s.holds r = true → claimNotice r (s.inOperation r) ∈ t.mail.outbound))

/-! ### LINK: hand-overs -/

/-- A frame arrival in every phase (R6): the frame that ends is missing before the first frame arrival, in SYNC, in FIELDS and in a VOID frame
without a missing-frame event, complete in SLOT and in IDLE. `e` is the station when the frame has ended, before the hand-over: in FIELDS and
in SLOT the bits whose middle has come (R5) have been met without a fault (the bit in progress counts as not driven: the model's choice, log
47), and an abandoned slot has enqueued nothing, has no winner before the end of slot bit 6 (R44), its loser keeps its notice, or has it
removed where it was withdrawn (log 19: the model's reading), and its winner takes the outcome of an ACK sampled recessive (R47 to R49); `g`
is `e` with an own pulse counted that still waited for its echo (log 39). The drive-fault count is cleared by a frame whose dominant bits and
own pulses were all echoed; a pulse that met an already low line at the new fall's instant or after it belongs to the new frame (log 38). The
blocks take the hand-over, the dropped role claims are handed over again (R192), and a new frame begins in SYNC, its times measured from the
fall 2 µs before. A fault in the bits so far, or in the count of the waiting pulse, is entered instead, and the arrival is not taken, which is
the model's choice where both fall at one instant (log 41). More of what is said here is the model's: slot bit 6 is settled in this step where
no earlier command has settled it, and stands as settled otherwise (log 40); the line bits come with the one command (log 9); the limits count
n with all 32 bits of CLOSED (log 31); a dropped claim comes again at the end of the hand-over (log 18); the hold-off count rises also where
the slot is abandoned before anybody has won it (log 45); a plant limit reached at this very instant counts if it has been taken (log 37). -/
def Obligations.FrameArrivalHandsTheFrameOver : Prop :=
  ∀ (dt : Nat) (ldata : List LineBit) (pins : HandOverPins) (s x : State), s.powered = true → s.link.state = .active →
    x = s.elapse dt →
    (∀ (e g : State) (frame : Option FieldReadings) (fresh : Bool), x.frameEnded ldata frame e →
      (s.link.phase = .void → s.link.missTaken = false) → e.pulseCounted g → (fresh = true ↔ g.link.freshMute) →
      ∃ t, exec (.frameArrival dt ldata pins) s = .next t
        ∧ t.link = { g.link.begun fresh with frameCounter := s.link.frameCounter + 1 }
        ∧ g.handedOver frame pins t ∧ t.mail.inbound = s.mail.inbound)
    ∧ (∀ reason : FaultReason,
      (s.link.phase = .fields ∧ (∃ bits, x.link.lineMet 48 112 ldata bits ∧ (x.runFields bits).stop = some reason)
        ∨ s.link.phase = .slot ∧ (∃ bits, x.link.lineMet 944 95 ldata bits ∧ (runSlot x bits).acc.stop = some reason)
        ∨ reason = .driveFault ∧ ∃ e frame, x.frameEnded ldata frame e ∧ e.link.pulseDue ∧ 3 ≤ e.link.faultsDue) →
      ∃ t, exec (.frameArrival dt ldata pins) s = .next t
        ∧ t.link.state = .fault ∧ t.link.faultReason = some reason ∧ t.link.phase = .none ∧ t.link.lsyncDriven = false
        ∧ t.link.frameCounter = s.link.frameCounter ∧ t.mail.outbound = [] ∧ t.mail.inbound = [] ∧ t.mail.readout = none
        ∧ t.rcv = s.rcv ∧ t.monitor = s.monitor ∧ t.fire = s.fire ∧ t.supp = x.supp ∧ t.plant = x.plant)

/-- A missing-frame event: with LINE_STUCK set and LSYNC low, 10 ms after the latest of the three instants, a missing frame is handed
over, the counter advances and the deadline starts again; the blocks take it as every missing frame, and with PERMIT 0 GRID's breaker does not
stay closed. A VOID frame in which such an event was taken is itself handed over as nothing at the frame arrival that ends it: only LINK's
frame changes. There an own pulse that still waits for its echo is counted first (log 39), and a pulse that met an already low line at the new
fall's instant or after it belongs to the new frame (log 38); both are the model's reading, as are a dropped claim that comes again (log 18)
and a plant limit at this very instant (log 37). -/
def Obligations.MissingFrameEventHandsOverAMissingFrame : Prop :=
  (∀ (dt n : Nat) (pins : HandOverPins) (s e : State), s.powered = true → s.link.state = .active → s.link.lineStuck = true →
    s.link.lsyncLow = true → s.link.missTimer = some n → 10000 ≤ n + dt →
    e = (s.elapse dt).setLink { (s.elapse dt).link with missTimer := some 0, missTaken := true } →
    ∃ t, exec (.missingFrameEvent dt pins) s = .next t
      ∧ t.link = { e.link with frameCounter := s.link.frameCounter + 1 }
      ∧ t.rcv = { s.rcv with presence := 0, closed := 0, permit := false, hold := false, chg := 255, dis := 255, prev := none }
      ∧ e.handedOver none pins t
      ∧ t.mail.holdOff = s.mail.holdOff ∧ t.monitor.stranger = s.monitor.stranger
      ∧ (s.grid.running = true → t.grid.permitCount = 0 ∧ t.grid.state ≠ .closed ∧ t.grid.state ≠ .closing)
      ∧ t.alw.limits = ⟨0, 0⟩)
  ∧ (∀ (dt : Nat) (ldata : List LineBit) (pins : HandOverPins) (s g : State) (fresh : Bool), s.powered = true →
    s.link.state = .active → s.link.phase = .void → s.link.missTaken = true → (s.elapse dt).pulseCounted g →
    (fresh = true ↔ g.link.freshMute) → exec (.frameArrival dt ldata pins) s = .next (g.setLink (g.link.begun fresh)))

/-- The record's filters at a complete frame: a stage, a GRIDPRES or a DEGRADED that reads as the previous reading does, when that
reading carries the counter value one below, is taken; anything else leaves the filtered values. The unfiltered entries are
stored as received. -/
def Obligations.RecordFiltersPairConsecutiveFrames : Prop :=
  ∀ (counter : BitVec 32) (f : FieldReadings) (r : Rcv),
    (r.complete counter f).presence = f.presence ∧ (r.complete counter f).closed = f.closed
    ∧ (r.complete counter f).permit = f.permit ∧ (r.complete counter f).hold = f.hold
    ∧ (r.complete counter f).chg = f.chg ∧ (r.complete counter f).dis = f.dis ∧ (r.complete counter f).demand = f.demand
    ∧ (r.complete counter f).prev = some ⟨(decodeFire f.fire).1, !f.gridPres, !f.degraded, counter⟩
    ∧ (∀ p, r.prev = some p → p.counter + 1 = counter →
        (p.stage = (decodeFire f.fire).1 →
          ((r.complete counter f).stage, (r.complete counter f).source) = decodeFire f.fire)
        ∧ (p.stage ≠ (decodeFire f.fire).1 →
          (r.complete counter f).stage = r.stage ∧ (r.complete counter f).source = r.source)
        ∧ (p.gridPres = !f.gridPres → (r.complete counter f).gridPres = !f.gridPres)
        ∧ (p.gridPres = f.gridPres → (r.complete counter f).gridPres = r.gridPres)
        ∧ (p.degraded = !f.degraded → (r.complete counter f).degraded = !f.degraded)
        ∧ (p.degraded = f.degraded → (r.complete counter f).degraded = r.degraded))
    ∧ ((r.prev = none ∨ ∃ p, r.prev = some p ∧ p.counter + 1 ≠ counter) →
        (r.complete counter f).stage = r.stage ∧ (r.complete counter f).source = r.source
        ∧ (r.complete counter f).gridPres = r.gridPres ∧ (r.complete counter f).degraded = r.degraded)
    ∧ (∀ stage ∈ [FireStage.normal, .preAlarm, .alarm, .releasePending, .released], ∀ a < 32,
        decodeFire ((7 - stage.rank) * 32 + a) = (stage, a))

/-! ### LINK: the field area -/

/-- The field area ends at 944 µs after a run without a fault: the readings are kept, the slot begins, and the head of the outbound queue
is the candidate when it is SAFETY or the hold-off count is 2. A run that finds a fault enters FAULT from the middle of that bit on (R12,
R13); before either instant only time passes. `a` is the run over the line bits, with each contribution as it stood when its entry began;
that an entry which begins at the very instant of a command is read before that command's change, and that one command carries the whole
area, is the model's choice (log 9). -/
def Obligations.FieldAreaEndKeepsTheReadings : Prop :=
  ∀ (dt n : Nat) (ldata : List LineBit) (s x : State) (a : BitAcc), s.powered = true → s.link.state = .active →
    s.link.phase = .fields → s.link.frameTime = some n → x = s.elapse dt →
    a = sendFields (s.fixedAfter dt) (ldata.take 112 ++ List.replicate (112 - ldata.length) quietBit)
      ⟨s.link.driveFaults, s.link.frameFaulted, s.link.droveDominant, none, [], []⟩ →
    (a.stop = none → n + dt < 944 → exec (.fieldAreaEnd dt ldata) s = .next x)
    ∧ (a.stop = none → 944 ≤ n + dt → ∃ t, exec (.fieldAreaEnd dt ldata) s = .next t
      ∧ t.link = { x.link with
          phase := .slot, fixed := [], fields := some (readFields a.seen), fieldDrive := a.driven, slotRoom := [], arb := none
          slotDrive := []
          driveFaults := a.faults, frameFaulted := a.marked, droveDominant := a.drove }
      ∧ (∀ m rest, s.mail.outbound = m :: rest → (m.priority = .safety ∨ s.mail.holdOff = 2) →
          t.mail = { s.mail with outbound := { m with mark := .contending } :: rest })
      ∧ (∀ m rest, s.mail.outbound = m :: rest → m.priority ≠ .safety → s.mail.holdOff ≠ 2 → t.mail = s.mail)
      ∧ (s.mail.outbound = [] → t.mail = s.mail)
      ∧ t = (x.setLink t.link).setMail t.mail)
    ∧ (∀ reason, a.stop = some reason →
      (n + dt < 44 + 8 * a.seen.length → exec (.fieldAreaEnd dt ldata) s = .next x)
      ∧ (44 + 8 * a.seen.length ≤ n + dt → exec (.fieldAreaEnd dt ldata) s = .next (enterFault reason (x.setLink
        { x.link with
          fieldDrive := a.driven, driveFaults := a.faults, frameFaulted := a.marked, droveDominant := a.drove }))))

/-- A station alone on the link whose record stands still over a field area reads its own contributions back: its PRESENCE bit, its CLOSED bit
while CLOSED or WELDED, its grant by the conditions of R40, its HOLD, GRIDPRES and DEGRADED drives, its stage and address in FIRE, its pair
while it contributes (else 255), and 15 less its zone level; no echo fails. -/
def Obligations.LoneStationReadsItsOwnContributions : Prop :=
  ∀ (s : State) (a : BitAcc), s.own ≤ 30 → s.alw.published.chg ≤ 254 → s.alw.published.dis ≤ 254 → s.therm.published ≤ 15 →
    s.link.fixed = s.fieldPlan → a = s.runFields (List.replicate 112 quietBit) →
    a.stop = none ∧ a.faults = s.link.driveFaults ∧ a.drove = true ∧ a.driven.length = 112 ∧ a.seen = a.driven
    ∧ (readFields a.seen).presence = BitVec.ofNat 32 (2 ^ s.own)
    ∧ (readFields a.seen).closed = (if s.cont.state = .closed ∨ s.cont.state = .welded then BitVec.ofNat 32 (2 ^ s.own) else 0)
    ∧ ((readFields a.seen).permit = true ↔ s.link.state = .active ∧ s.configValid = true ∧ s.fire.localStage = .normal
        ∧ s.publishedStage = .normal ∧ s.rcv.stage = .normal
        ∧ (∀ cls ∈ s.classes, cls ≠ .lowTrip ∧ cls ≠ .highTrip ∧ cls ≠ .openWire)
        ∧ s.cont.state ≠ .welded ∧ s.cont.lockout = false ∧ (s.grid.running = true → s.grid.state ≠ .breakerFault)
        ∧ s.memberMissing = false)
    ∧ (readFields a.seen).hold = !s.fire.holdDrive
    ∧ ((readFields a.seen).gridPres = false ↔ s.holds .grid = true ∧ s.grid.running = true ∧ s.grid.presentCount = 2)
    ∧ ((readFields a.seen).degraded = false ↔ s.holds .plant = true ∧ s.plant.chFaults = 2)
    ∧ (readFields a.seen).fire = (7 - s.publishedStage.rank) * 32 + s.own
    ∧ (readFields a.seen).chg = (if s.cont.state = .closing ∨ s.cont.state = .closed ∨ s.cont.state = .welded
        then s.alw.published.chg else 255)
    ∧ (readFields a.seen).dis = (if s.cont.state = .closing ∨ s.cont.state = .closed ∨ s.cont.state = .welded
        then s.alw.published.dis else 255)
    ∧ (readFields a.seen).demand = 15 - s.therm.published

/-- The bit-serial minimum: a station that sends `v` among peers that together send `p` samples the smaller of the two, and has dropped
out exactly when `p` is smaller; no drive fault is found. -/
def Obligations.FieldCarriesTheSmallestValue : Prop :=
  ∀ (w v p : Nat) (a : BitAcc), v < 2 ^ w → p < 2 ^ w → a.stop = none →
    readBits ((sendField w (some v) false (peersLine v p w) a).1.seen) a.seen.length w = min v p
    ∧ ((sendField w (some v) false (peersLine v p w) a).2 = true ↔ p < v)
    ∧ (sendField w (some v) false (peersLine v p w) a).1.faults = a.faults
    ∧ (sendField w (some v) false (peersLine v p w) a).1.stop = none

/-- One bit driven dominant and sampled recessive: the first of a frame adds one to the drive-fault count and marks the frame, and at a
count of 3 it is the cause of FAULT; in a marked frame it adds nothing. -/
def Obligations.LostDominantBitCountsOncePerFrame : Prop :=
  ∀ (clash : Bool) (b : LineBit) (a : BitAcc), a.stop = none → b.peers = false → b.broken = true →
    (a.marked = false → a.faults + 1 < 3 →
      a.bit clash true b = { a with
        faults := a.faults + 1, marked := true, drove := true, driven := a.driven ++ [true], seen := a.seen ++ [false] })
    ∧ (a.marked = false → 3 ≤ a.faults + 1 → (a.bit clash true b).stop = some .driveFault)
    ∧ (a.marked = true → a.bit clash true b = { a with
        drove := true, driven := a.driven ++ [true], seen := a.seen ++ [false] })

/-! ### LINK: the notice slot -/

/-- A slot in which nobody contends ends after slot bit 6, 1000 µs after the fall: IDLE, nothing driven, nothing enqueued. A receiver that
reads LENGTH 9 to 15 stops after slot bit 20, 1112 µs after the fall. Neither sets a flag. That the one command carries the bits of the whole
slot, and only lets time pass where it comes before slot bit 6 has ended, is the model's choice (logs 2 and 9). Where it comes between that
bit and the slot's end it takes what the bit has settled, and given again it leaves what it would have left if it had been given once
(log 40). -/
def Obligations.IdleSlotEndsAfterTheSourceBits : Prop :=
  ∀ (dt n : Nat) (s x : State), s.powered = true → s.link.state = .active → s.link.phase = .slot → s.link.frameTime = some n →
    s.link.arb = none → x = s.elapse dt →
    ((∀ m ∈ s.mail.outbound, m.mark = .waiting) →
      (1000 ≤ n + dt → exec (.noticeSlotEnd dt []) s = .next (x.setLink
        { x.link with phase := .idle, slotRoom := [], slotDrive := List.replicate 7 false }))
      ∧ (∀ (p : Priority) (src dest kind len : Nat) (rest : List LineBit), src ≤ 30 → 9 ≤ len → len ≤ 15 → 1112 ≤ n + dt →
        exec (.noticeSlotEnd dt (((bitsOf 2 p.code ++ bitsOf 5 src ++ bitsOf 5 dest ++ bitsOf 5 kind ++ bitsOf 4 len).map
            fun v => ⟨!v, false⟩) ++ rest)) s = .next (x.setLink
          { x.link with phase := .idle, slotRoom := [], slotDrive := List.replicate 21 false })))
    ∧ (∀ ldata, n + dt < 1000 → (runSlot x (ldata.take 95 ++ List.replicate (95 - ldata.length) quietBit)).acc.stop = none →
      exec (.noticeSlotEnd dt ldata) s = .next x)
    ∧ (∀ (d : Nat) (early whole : List LineBit) (t : State), early.take 7 = whole.take 7 →
      exec (.noticeSlotEnd dt early) s = .next t → t.link.phase = .slot →
      exec (.noticeSlotEnd d whole) t = exec (.noticeSlotEnd (dt + d) whole) s)

/-- What a winner sends is what every receiver takes: a notice sent from another address, directed to the station or broadcast, is enqueued
with all its parts and, when it is directed, acknowledged: a directed one when the inbound queue held fewer than 4 at the start of the ACK
bit (`room`), a broadcast when it holds fewer than 4 at the slot end; else a directed notice is discarded without a flag, a broadcast with
INBOUND_OVERRUN. A candidate whose arbitration value is the larger has lost: its notice stays in its place, or is removed where it has been
withdrawn (R53), at the end of slot bit 6, where the command is given then (log 40), and it receives as the others do. A notice to another
address, or with a CHECK that is not its CRC, is not accepted: nothing is enqueued and ACK stays undriven. That one command carries the bits
of the whole slot is the model's choice (log 9). -/
def Obligations.SentNoticeIsTakenByItsReceivers : Prop :=
  ∀ (dt n src : Nat) (m : OutNotice) (s x : State), s.powered = true → s.link.state = .active → s.link.phase = .slot →
    s.link.frameTime = some n → s.link.arb = none → s.own ≤ 30 → src ≤ 30 → src ≠ s.own →
    m.payload.length ≤ 8 → m.dest ≤ 31 → x = s.elapse dt →
    (∀ (c : OutNotice) (rest : List OutNotice), s.mail.outbound = c :: rest → c.mark = .contending ∨ c.mark = .withdrawn →
      (∀ q ∈ rest, q.mark = .waiting) → m.priority.code * 32 + src < c.priority.code * 32 + s.own →
      1000 ≤ n + dt → n + dt < 944 + 8 * (31 + 8 * m.payload.length) → ∃ t,
        exec (.noticeSlotEnd dt (slotWire src m)) s = .next t
        ∧ t.mail = { s.mail with outbound := if c.mark = .withdrawn then rest else { c with mark := .lost } :: rest }
        ∧ t.link.phase = .slot ∧ t.link.slotWon = s.link.slotWon ∧ (∃ seen, t.link.arb = some ⟨seen, none⟩)
        ∧ t.link.driveFaults = s.link.driveFaults ∧ t = (x.setLink t.link).setMail t.mail)
    ∧ (∀ (room takes : Bool) (held : List InNotice), 944 + 8 * (31 + 8 * m.payload.length) ≤ n + dt →
      room = (s.roomAfter dt).getD m.payload.length false →
      held = s.mail.inbound → (room = true → held.length < 4) → (m.dest = s.own ∨ m.dest = 31) →
      (takes = true ↔ m.dest = s.own ∧ room = true ∨ m.dest = 31 ∧ held.length < 4) →
      ((∀ q ∈ s.mail.outbound, q.mark = .waiting) → ∃ t, exec (.noticeSlotEnd dt (slotWire src m)) s = .next t
        ∧ t.mail = { s.mail with
            inbound := if takes then held ++ [wiredNotice src m] else held
            inboundOverrun := s.mail.inboundOverrun || (!takes && m.dest == 31) }
        ∧ t.link = { x.link with
            phase := .idle, slotRoom := []
            slotDrive := List.replicate (30 + 8 * m.payload.length) false ++ [takes && m.dest != 31]
            droveDominant := s.link.droveDominant || (takes && m.dest != 31) }
        ∧ t = (x.setLink t.link).setMail t.mail)
      ∧ (∀ (c : OutNotice) (rest : List OutNotice), s.mail.outbound = c :: rest → c.mark = .contending ∨ c.mark = .withdrawn →
        (∀ q ∈ rest, q.mark = .waiting) →
        m.priority.code * 32 + src < c.priority.code * 32 + s.own → ∃ t, exec (.noticeSlotEnd dt (slotWire src m)) s = .next t
        ∧ t.mail = { s.mail with
            outbound := if c.mark = .withdrawn then rest else { c with mark := .waiting } :: rest
            inbound := if takes then held ++ [wiredNotice src m] else held
            inboundOverrun := s.mail.inboundOverrun || (!takes && m.dest == 31) }
        ∧ t.link.phase = .idle ∧ t.link.slotWon = s.link.slotWon ∧ t.link.driveFaults = s.link.driveFaults
        ∧ t = (x.setLink t.link).setMail t.mail))
    ∧ (∀ check : Nat, check < 256 → (∀ q ∈ s.mail.outbound, q.mark = .waiting) → 944 + 8 * (31 + 8 * m.payload.length) ≤ n + dt →
      (m.dest ≠ s.own ∧ m.dest ≠ 31
        ∨ check ≠ (crc8 (coveredBits m.priority.code src m.dest m.kind.code m.payload)).toNat) →
      exec (.noticeSlotEnd dt (((bitsOf 2 m.priority.code ++ bitsOf 5 src ++ bodyBits m.dest m.kind.code m.payload ++ bitsOf 8 check).map
          fun v => ⟨!v, false⟩) ++ [quietBit, quietBit])) s = .next (x.setLink
        { x.link with phase := .idle, slotRoom := [], slotDrive := List.replicate (31 + 8 * m.payload.length) false }))

/-- A candidate with nobody else on the wire wins: its notice leaves the queue, withdrawn meanwhile or not (R53), a CONTROL, DATA or BULK win
sets the hold-off count to 0, the slot is won, and at the slot's end the outcome by ACK is handed on (R49): a segment's to the readout (R62,
R63), a DEAD_BUS_CLAIM's to CONT (R122), as SegmentOutcomeGoesOnOrEndsTheReadout and DeadBusClaimsTakeTurns say of noticeOutcome; a directed
notice of any other kind sets NOTICE_UNDELIVERED exactly when ACK reads recessive, and a broadcast is delivered. The notice has left the queue
from the end of slot bit 6 on, where the command is given then (R44, log 40). A winner that samples a bit dominant that it drives recessive,
from DEST to CHECK, is in FAULT with reason ADDRESS_CLASH from the middle of that bit on, and takes no outcome (R45). That one command carries
the bits of the whole slot, and enters the fault only from that bit on, is the model's choice (log 9). -/
def Obligations.LoneCandidateWinsItsSlot : Prop :=
  ∀ (dt n : Nat) (m : OutNotice) (rest : List OutNotice) (s x : State), s.powered = true → s.link.state = .active →
    s.link.phase = .slot → s.link.frameTime = some n → s.link.arb = none → s.own ≤ 30 → s.mail.outbound = m :: rest →
    m.mark = .contending ∨ m.mark = .withdrawn → (∀ q ∈ rest, q.mark = .waiting) → m.payload.length ≤ 8 → m.dest ≤ 31 → x = s.elapse dt →
    (∀ k : Nat, 1000 ≤ n + dt → n + dt < 944 + 8 * (31 + 8 * m.payload.length) →
      ∃ t, exec (.noticeSlotEnd dt (List.replicate k quietBit)) s = .next t
        ∧ t.mail = { s.mail with outbound := rest, holdOff := if m.priority = .safety then s.mail.holdOff else 0 }
        ∧ t.link = { x.link with
            slotWon := true, droveDominant := true
            slotDrive := (bitsOf 2 m.priority.code ++ bitsOf 5 s.own).map (!·)
            arb := some ⟨(bitsOf 2 m.priority.code ++ bitsOf 5 s.own).map (!·), some m⟩ }
        ∧ t = (x.setLink t.link).setMail t.mail)
    ∧ (∀ ack : Bool, 944 + 8 * (31 + 8 * m.payload.length) ≤ n + dt → m.kind ≠ .snapshotSegment → m.kind ≠ .deadBusClaim →
      ∃ t, exec (.noticeSlotEnd dt (List.replicate (30 + 8 * m.payload.length) quietBit ++ [⟨ack, false⟩])) s = .next t
        ∧ t.mail = { s.mail with
            outbound := rest
            holdOff := if m.priority = .safety then s.mail.holdOff else 0
            noticeUndelivered := s.mail.noticeUndelivered || (m.dest != 31 && !ack) }
        ∧ t.link.phase = .idle ∧ t.link.slotWon = true
        ∧ t.link.slotDrive = (bitsOf 2 m.priority.code ++ bitsOf 5 s.own ++ noticeBits s.own m).map (!·) ++ [false, false]
        ∧ t = (x.setLink t.link).setMail t.mail)
    ∧ (∀ (ack : Bool) (y : State), 944 + 8 * (31 + 8 * m.payload.length) ≤ n + dt →
      y = (x.setLink { x.link with
          phase := .idle, slotRoom := [], slotWon := true, droveDominant := true
          slotDrive := (bitsOf 2 m.priority.code ++ bitsOf 5 s.own ++ noticeBits s.own m).map (!·) ++ [false, false] }).setMail
        { s.mail with outbound := rest, holdOff := if m.priority = .safety then s.mail.holdOff else 0 } →
      exec (.noticeSlotEnd dt (List.replicate (30 + 8 * m.payload.length) quietBit ++ [⟨ack, false⟩])) s = .next (noticeOutcome m ack y))
    ∧ (∀ (k : Nat) (more : List LineBit), (noticeBits s.own m)[k]? = some true →
      (944 + 8 * (7 + k) + 4 ≤ n + dt → ∃ t,
        exec (.noticeSlotEnd dt (List.replicate (7 + k) quietBit ++ [⟨true, false⟩] ++ more)) s = .next t
        ∧ t.link.state = .fault ∧ t.link.faultReason = some .addressClash ∧ t.link.slotDrive.length = 8 + k
        ∧ t.link.slotDrive[7 + k]? = some false ∧ t.mail.outbound = [] ∧ t.mail.inbound = [] ∧ t.mail.readout = none
        ∧ t.mail.noticeUndelivered = s.mail.noticeUndelivered
        ∧ (s.cont.state = .claiming → t.cont.state = .rackOpen))
      ∧ (n + dt < 1000 →
        exec (.noticeSlotEnd dt (List.replicate (7 + k) quietBit ++ [⟨true, false⟩] ++ more)) s = .next x)
      ∧ (1000 ≤ n + dt → n + dt < 944 + 8 * (7 + k) + 4 → ∃ t,
        exec (.noticeSlotEnd dt (List.replicate (7 + k) quietBit ++ [⟨true, false⟩] ++ more)) s = .next t
        ∧ t.link.state = .active ∧ t.link.phase = .slot ∧ t.mail.outbound = rest))

/-- The layout of a segment (R62, 12.3): its number, three values of the page, most significant byte first and signed ones in two's
complement, the third of segment 8 a zero, and the low 8 bits of the page's scan number. The outcome of a segment: delivered below 8, the next
one is queued with the values of the held page; segment 8 delivered, or any segment undelivered, ends the readout and releases the page hold,
without NOTICE_UNDELIVERED. A notice handed to LINK goes after the last of its own priority (R51); in a full queue it takes the place of the
least urgent notice that entered last, if that is less urgent and no candidate, and is discarded otherwise, a SAFETY notice too where more
urgent notices stand before the candidate (the model's choice, log 46), with OUTBOUND_DROPPED in both cases, and the dropped segment ends the
readout, the dropped claim of CONT its CLAIMING, and the dropped role claim is kept to be handed over again (R52). -/
def Obligations.SegmentOutcomeGoesOnOrEndsTheReadout : Prop :=
  (∀ (m : OutNotice) (ack : Bool) (req k : Nat) (s : State), m.kind = .snapshotSegment → m.dest ≠ 31 →
    s.mail.readout = some ⟨req, k⟩ → s.link.state ≠ .fault → s.mail.outbound.length < 8 →
    (ack = true → k < 8 → ∃ t, t = noticeOutcome m ack s ∧ t.mail.readout = some ⟨req, k + 1⟩ ∧ t.meas = s.meas
      ∧ t.mail.outbound = insertNotice ⟨.bulk, req, .snapshotSegment, segmentPayload (k + 1) s.meas.readPage, .link, .waiting⟩
          s.mail.outbound
      ∧ t.mail.noticeUndelivered = s.mail.noticeUndelivered)
    ∧ (ack = false ∨ 8 ≤ k → ∃ t, t = noticeOutcome m ack s ∧ t.mail = { s.mail with readout := none }
      ∧ t.meas = { s.meas with pageHold := false }))
  ∧ (∀ (n : OutNotice) (s : State), s.link.state ≠ .fault → s.mail.outbound.Pairwise (fun a b => a.priority.code ≤ b.priority.code) →
    (s.mail.outbound.length < 8 → ∃ front back, s.mail.outbound = front ++ back
      ∧ (∀ q ∈ front, q.priority.code ≤ n.priority.code) ∧ (∀ q ∈ back, n.priority.code < q.priority.code)
      ∧ queueNotice n s = s.setMail { s.mail with outbound := front ++ n :: back })
    ∧ (∀ (q : List OutNotice) (last dropped : OutNotice) (left : List OutNotice) (t : State), s.mail.outbound = q ++ [last] →
      q.length = 7 → t = queueNotice n s →
      (n.priority.code < last.priority.code ∧ last.mark = .waiting ∧ dropped = last ∧ left = insertNotice n q
        ∨ ¬ (n.priority.code < last.priority.code ∧ last.mark = .waiting) ∧ dropped = n ∧ left = q ++ [last]) →
      t.mail.outbound = left ∧ t.mail.outboundDropped = true ∧ t.mail.inbound = s.mail.inbound
      ∧ t.mail.readout = (if dropped.kind = .snapshotSegment then none else s.mail.readout)
      ∧ t.meas.pageHold = (if dropped.kind = .snapshotSegment then false else s.meas.pageHold)
      ∧ t.cont = (if dropped.kind = .deadBusClaim ∧ dropped.owner = .cont s.cont.claim ∧ s.cont.state = .claiming
          then { s.cont with state := .rackOpen } else s.cont)
      ∧ (dropped.kind ≠ .roleClaim → t.cfg = s.cfg)
      ∧ (∀ r : Role, dropped.kind = .roleClaim → dropped.payload.head? = some (BitVec.ofNat 8 r.code) →
          t.cfg = { s.cfg with reclaim := s.cfg.reclaim ++ [r] })))
  ∧ (∀ (k : Nat) (p : Page) (b : Nat → Nat), k ≤ 8 → (∀ i, b i = ((segmentPayload k p).getD i 0).toNat) →
    (segmentPayload k p).length = 8 ∧ b 0 = k
    ∧ (∀ j < 3, ((b (1 + 2 * j) * 256 + b (2 + 2 * j) : Nat) : Int) = p.values.getD (3 * k + j) 0 % 65536)
    ∧ (k = 8 → p.values.length = 26 → b 5 = 0 ∧ b 6 = 0)
    ∧ b 7 = p.number.toNat % 256)

/-! ### LINK: notices taken -/

/-- An unknown kind: a directed notice is answered with RESULT UNKNOWN_KIND, a broadcast is discarded; a report or reply taken is
discarded, whatever it carries. A reply-needing head waits while the outbound queue is full: a directed read, or a directed notice that
would be refused (an unknown kind; a command from no commander, of a wrong length, out of range, for GRID without the role, or refused by its
owner), stays at the head and only time passes. -/
def Obligations.UnknownKindsAndReportsAreTaken : Prop :=
  (∀ (dt : Nat) (n : InNotice) (rest : List InNotice) (s : State), s.powered = true → s.mail.inbound = n :: rest →
    (Kind.ofCode n.kind = none → n.dest ≠ 31 → s.link.state ≠ .fault → s.mail.outbound.length < 8 →
      exec (.unknownKindNotice dt) s = .next ((s.elapse dt).setMail { s.mail with
        inbound := rest
        outbound := insertNotice ⟨.control, n.source, .result, [BitVec.ofNat 8 n.kind, 1], .link, .waiting⟩ s.mail.outbound }))
    ∧ (Kind.ofCode n.kind = none → n.dest = 31 →
      exec (.unknownKindNotice dt) s = .next ((s.elapse dt).setMail { s.mail with inbound := rest }))
    ∧ (n.kind ∈ [16, 17, 18, 21, 22] →
      exec (.reportNoticeTaken dt) s = .next ((s.elapse dt).setMail { s.mail with inbound := rest })))
  ∧ (∀ (dt : Nat) (n : InNotice) (rest : List InNotice) (s : State) (c : Instr), s.powered = true → s.mail.inbound = n :: rest →
    8 ≤ s.mail.outbound.length → n.dest ≠ 31 →
    (Kind.ofCode n.kind = none ∧ c = .unknownKindNotice dt
      ∨ (n.kind, c) ∈ [(1, Instr.rackJoin dt), (2, .rackLeave dt), (3, .closeRequest dt), (4, .openRequest dt), (5, .lockoutClear dt),
          (6, .alarmReset dt), (7, .profileSelect dt), (8, .balanceSet dt), (9, .statusRead dt), (10, .snapshotRead dt)]
        ∧ (n.source ∉ s.config.commanders
          ∨ n.payload.length ≠ (if n.kind = 7 ∨ n.kind = 8 then 1 else 0)
          ∨ n.kind = 7 ∧ 3 < (n.payload.getD 0 0).toNat ∨ n.kind = 8 ∧ 1 < (n.payload.getD 0 0).toNat
          ∨ n.kind ∈ [3, 4, 5] ∧ s.holds .grid = false
          ∨ n.kind = 1 ∧ (s.cont.lockout = true ∨ s.configValid = false)
          ∨ n.kind = 3 ∧ (s.grid.state = .breakerFault ∨ s.grid.state = .recloseLockout)
          ∨ n.kind = 6 ∧ s.retained.releasedLatch = true
          ∨ n.kind = 9 ∨ n.kind = 10)) →
    exec c s = .next (s.elapse dt))

/-- Refusals answer a directed notice and no broadcast (R56): every command kind from a source that is no commander is NOT_PERMITTED; from a
commander, one of a wrong length or with a payload out of range is of RANGE; a GRID command at a station without the role is WRONG_ROLE; a
RACK_JOIN is LOCKED_OUT while the lockout flag is set, in every contactor state (log 16: the model's reading), else of STATE while the
configuration is invalid, and the request stands. A station's own kind of a wrong length, and a read that is broadcast, are discarded. -/
def Obligations.CommandsAreRefusedByTheChecks : Prop :=
  (∀ (dt : Nat) (n : InNotice) (rest : List InNotice) (s : State) (c : Instr), s.powered = true → s.mail.inbound = n :: rest →
    (n.kind, c) ∈ [(1, Instr.rackJoin dt), (2, .rackLeave dt), (3, .closeRequest dt), (4, .openRequest dt), (5, .lockoutClear dt),
      (6, .alarmReset dt), (7, .profileSelect dt), (8, .balanceSet dt), (9, .statusRead dt), (10, .snapshotRead dt)] →
    n.source ∉ s.config.commanders →
    (n.dest ≠ 31 → s.link.state ≠ .fault → s.mail.outbound.length < 8 →
      exec c s = .next ((s.elapse dt).setMail { s.mail with
        inbound := rest
        outbound := insertNotice ⟨.control, n.source, .result, [BitVec.ofNat 8 n.kind, 2], .link, .waiting⟩ s.mail.outbound }))
    ∧ (n.dest = 31 → exec c s = .next ((s.elapse dt).setMail { s.mail with inbound := rest })))
  ∧ (∀ (dt : Nat) (n : InNotice) (rest : List InNotice) (s : State) (reason : Byte), s.powered = true → s.mail.inbound = n :: rest →
    n.kind = 1 → n.source ∈ s.config.commanders → n.payload = [] →
    (s.cont.lockout = true ∧ reason = 5 ∨ s.cont.lockout = false ∧ s.configValid = false ∧ reason = 6) →
    (n.dest = 31 → exec (.rackJoin dt) s = .next ((s.elapse dt).setMail { s.mail with inbound := rest }))
    ∧ (n.dest ≠ 31 → s.link.state ≠ .fault → s.mail.outbound.length < 8 →
        exec (.rackJoin dt) s = .next ((s.elapse dt).setMail { s.mail with
          inbound := rest
          outbound := insertNotice ⟨.control, n.source, .result, [1, reason], .link, .waiting⟩ s.mail.outbound })))
  ∧ (∀ (dt : Nat) (n : InNotice) (rest : List InNotice) (s : State) (c : Instr) (reason : Byte), s.powered = true →
    s.mail.inbound = n :: rest → n.source ∈ s.config.commanders →
    (n.kind, c) ∈ [(1, Instr.rackJoin dt), (2, .rackLeave dt), (3, .closeRequest dt), (4, .openRequest dt), (5, .lockoutClear dt),
      (6, .alarmReset dt), (7, .profileSelect dt), (8, .balanceSet dt), (9, .statusRead dt), (10, .snapshotRead dt)] →
    (reason = 3 ∧ (n.payload.length ≠ (if n.kind = 7 ∨ n.kind = 8 then 1 else 0)
        ∨ n.kind = 7 ∧ 3 < (n.payload.getD 0 0).toNat ∨ n.kind = 8 ∧ 1 < (n.payload.getD 0 0).toNat)
      ∨ reason = 4 ∧ n.kind ∈ [3, 4, 5] ∧ n.payload = [] ∧ s.holds .grid = false) →
    (n.dest ≠ 31 → s.link.state ≠ .fault → s.mail.outbound.length < 8 →
      exec c s = .next ((s.elapse dt).setMail { s.mail with
        inbound := rest
        outbound := insertNotice ⟨.control, n.source, .result, [BitVec.ofNat 8 n.kind, reason], .link, .waiting⟩ s.mail.outbound }))
    ∧ (n.dest = 31 → exec c s = .next ((s.elapse dt).setMail { s.mail with inbound := rest })))
  ∧ (∀ (dt : Nat) (n : InNotice) (rest : List InNotice) (s : State) (c : Instr), s.powered = true → s.mail.inbound = n :: rest →
    (n.kind = 19 ∧ c = .deadBusClaim dt ∧ n.payload ≠ []
      ∨ n.kind = 20 ∧ c = .roleClaim dt ∧ (n.payload.length ≠ 2 ∨ 3 < (n.payload.getD 0 0).toNat ∨ (n.payload.getD 0 0).toNat = 0
          ∨ 1 < (n.payload.getD 1 0).toNat)
      ∨ n.dest = 31 ∧ (n.kind = 9 ∧ c = .statusRead dt ∨ n.kind = 10 ∧ c = .snapshotRead dt)) →
    exec c s = .next ((s.elapse dt).setMail { s.mail with inbound := rest }))

/-- PROFILE_SELECT and BALANCE_SET in range: the index is pending, the setting is taken, and off switches every bleed driver off. -/
def Obligations.ProfileAndBalanceCommandsAreTaken : Prop :=
  ∀ (dt : Nat) (v : Byte) (n : InNotice) (rest : List InNotice) (s : State), s.powered = true → s.mail.inbound = n :: rest →
    n.source ∈ s.config.commanders → n.payload = [v] →
    (n.kind = 7 → v.toNat ≤ 3 → exec (.profileSelect dt) s = .next
      (((s.elapse dt).setMail { s.mail with inbound := rest }).setAlw { s.alw with pendingProfile := some v.toNat }))
    ∧ (n.kind = 8 → v = 1 → exec (.balanceSet dt) s = .next
      (((s.elapse dt).setMail { s.mail with inbound := rest }).setCell { s.cell with balanceEnable := true }))
    ∧ (n.kind = 8 → v = 0 → exec (.balanceSet dt) s = .next
      (((s.elapse dt).setMail { s.mail with inbound := rest }).setCell
        { s.cell with balanceEnable := false, bleed := List.replicate 16 false }))

/-- STATUS_READ and SNAPSHOT_READ directed to the station, with room: one STATUS of the state as it stands; or the readout of the
held page begins with segment 0. While a readout runs, SNAPSHOT_READ is refused with BUSY. -/
def Obligations.ReadsAreAnswered : Prop :=
  ∀ (dt : Nat) (n : InNotice) (rest : List InNotice) (s : State), s.powered = true → s.mail.inbound = n :: rest →
    n.source ∈ s.config.commanders → n.payload = [] → n.dest ≠ 31 → s.link.state ≠ .fault → s.mail.outbound.length < 8 →
    (n.kind = 9 → exec (.statusRead dt) s = .next ((s.elapse dt).setMail { s.mail with
        inbound := rest
        outbound := insertNotice ⟨.data, n.source, .status, s.statusPayload, .link, .waiting⟩ s.mail.outbound }))
    ∧ (n.kind = 10 → s.mail.readout = none → exec (.snapshotRead dt) s = .next
        (((s.elapse dt).setMail { s.mail with
          inbound := rest, readout := some ⟨n.source, 0⟩
          outbound := insertNotice ⟨.bulk, n.source, .snapshotSegment, segmentPayload 0 s.meas.readPage, .link, .waiting⟩
            s.mail.outbound }).setMeas { (s.elapse dt).meas with pageHold := true }))
    ∧ (n.kind = 10 → s.mail.readout ≠ none → exec (.snapshotRead dt) s = .next ((s.elapse dt).setMail { s.mail with
        inbound := rest
        outbound := insertNotice ⟨.control, n.source, .result, [10, 7], .link, .waiting⟩ s.mail.outbound }))

/-- The eight bytes of STATUS (R60, 12.3), bit by bit and code by code: the contactor state, the published stage, the worst class, which is
the last in R87's order that a channel in use has, the published pair, the zone level, and the role state, which is GRID's state, else the
count of running stages, else 0. -/
def Obligations.StatusBytesCarryTheStationsState : Prop :=
  ∀ (s : State) (b : Nat → Byte), (∀ i, b i = s.statusPayload.getD i 0) →
    s.alw.published.chg ≤ 254 → s.alw.published.dis ≤ 254 → s.therm.published ≤ 15 → s.runningStages ≤ 4 →
    s.statusPayload.length = 8
    ∧ (b 0).getLsbD 7 = s.configInvalid ∧ (b 0).getLsbD 6 = false ∧ (b 0).getLsbD 5 = s.monitor.stranger
    ∧ (b 0).getLsbD 4 = s.mail.noticeUndelivered ∧ (b 0).getLsbD 3 = s.mail.outboundDropped
    ∧ (b 0).getLsbD 2 = s.mail.inboundOverrun ∧ (b 0).getLsbD 1 = s.cfg.roleYielded ∧ (b 0).getLsbD 0 = s.link.lineStuck
    ∧ (b 1).getLsbD 7 = s.meas.sensorFault ∧ (b 1).getLsbD 6 = s.cont.closeFail ∧ (b 1).getLsbD 5 = s.cont.welded
    ∧ (b 1).getLsbD 4 = s.cell.overcurrent ∧ (b 1).getLsbD 3 = s.fire.lines.any (·.lineFault)
    ∧ (b 1).getLsbD 2 = s.supp.releaseFault ∧ (b 1).getLsbD 1 = (s.grid.running && s.grid.state == .breakerFault)
    ∧ (b 1).getLsbD 0 = s.cont.lockout
    ∧ (s.cont.state, (b 2).toNat) ∈ [(ContState.rackOpen, 0), (.waitMatch, 1), (.claiming, 2), (.closing, 3), (.closed, 4), (.opening, 5),
        (.welded, 6), (.lockout, 7)]
    ∧ (s.publishedStage, (b 3).toNat) ∈ [(FireStage.normal, 0), (.preAlarm, 1), (.alarm, 2), (.releasePending, 3), (.released, 4)]
    ∧ (∀ table, table = [(CellClass.normal, 0), (.lowWarn, 1), (.highWarn, 2), (.lowTrip, 3), (.highTrip, 4), (.openWire, 5)] →
        (b 4 = 0 ∨ ∃ cls ∈ s.classes, (cls, (b 4).toNat) ∈ table)
        ∧ ∀ cls ∈ s.classes, ∀ code, (cls, code) ∈ table → code ≤ (b 4).toNat)
    ∧ (b 5).toNat = s.alw.published.chg ∧ (b 6).toNat = s.alw.published.dis
    ∧ (b 7).toNat % 16 = s.therm.published
    ∧ (s.holds .grid = true → (s.grid.state, (b 7).toNat / 16) ∈ [(BreakerState.brkOpen, 0), (.reconnectWait, 1), (.closing, 2),
        (.closed, 3), (.tripping, 4), (.breakerFault, 5), (.recloseLockout, 6)])
    ∧ (s.holds .grid = false → s.holds .plant = true → (b 7).toNat / 16 = (s.plant.stages.filter (·.running)).length)
    ∧ (s.holds .grid = false → s.holds .plant = false → (b 7).toNat / 16 = 0)

/-- A ROLE_CLAIM taken: the table of R193, and nothing for a role that is not held. That a claimer in operation takes the place of another rival
recorded before it is the model's choice (log 48: R193 does not speak of two rivals). -/
def Obligations.RoleClaimFollowsTheTable : Prop :=
  ∀ (dt : Nat) (r : Role) (op : Bool) (n : InNotice) (rest : List InNotice) (s : State), s.powered = true →
    s.mail.inbound = n :: rest → n.kind = 20 → n.payload = [BitVec.ofNat 8 r.code, BitVec.ofNat 8 op.toNat] →
    (s.holds r = false → exec (.roleClaim dt) s = .next ((s.elapse dt).setMail { s.mail with inbound := rest }))
    ∧ (s.holds r = true → s.inOperation r = true → op = true → exec (.roleClaim dt) s = .next
        (((s.elapse dt).setMail { s.mail with inbound := rest }).setCfg
          { s.cfg with rivals := s.cfg.rivals.set r (some n.source) }))
    ∧ (s.holds r = true → s.link.state ≠ .fault → s.mail.outbound.length < 8 →
        (s.inOperation r = true ∧ op = false ∨ s.inOperation r = false ∧ op = false ∧ s.own ≤ n.source) →
        exec (.roleClaim dt) s = .next ((s.elapse dt).setMail { s.mail with
          inbound := rest
          outbound := insertNotice ⟨.control, 31, .roleClaim, [BitVec.ofNat 8 r.code, BitVec.ofNat 8 (s.inOperation r).toNat],
            .cfg, .waiting⟩ s.mail.outbound }))
    ∧ (s.holds r = true → s.inOperation r = false → (op = true ∨ n.source < s.own) →
        ∃ t, exec (.roleClaim dt) s = .next t ∧ t.cfg.yielded.get r = true ∧ t.cfg.roleYielded = true ∧ t.holds r = false
          ∧ (∀ q, q ≠ r → t.holds q = s.holds q) ∧ t.mail.inbound = rest ∧ t.mail.outbound = s.mail.outbound
          ∧ (r = .plant → t.runningStages = 0 ∧ t.plant.fadamp = false ∧ t.degradedDrive = false)
          ∧ (r = .grid → t.grid.running = false ∧ t.gridPresDrive = false ∧ t.alw.limits = ⟨0, 0⟩ ∧ t.outputs.brkClose = false
              ∧ t.outputs.brkTrip = false ∧ t.outputs.pcsEn = false)
          ∧ (r = .supp → t.supp.releasePending = false ∧ t.outputs.relOut = false ∧ t.supp.watch = (s.elapse dt).supp.watch)
          ∧ t.link = (s.elapse dt).link ∧ t.rcv = s.rcv ∧ t.retained = s.retained ∧ t.cont = (s.elapse dt).cont)

/-! ### CONT -/

/-- RACK_JOIN and RACK_LEAVE taken (R118, R120): the request changes, and the evaluation that goes with it moves the contactor. A repeated
RACK_JOIN changes nothing. That RACK_LEAVE clears the request in LOCKOUT too is the model's choice (log 32: R120 clears it in every state,
R127 has RACK_LEAVE change nothing there). A claim that RACK_LEAVE ends is withdrawn as withdrawFirst says (logs 30 and 40). -/
def Obligations.RackCommandsMoveTheContactor : Prop :=
  ∀ (dt : Nat) (n : InNotice) (rest : List InNotice) (s e : State), s.powered = true → s.mail.inbound = n :: rest →
    n.source ∈ s.config.commanders → n.payload = [] → s.contactorSafe →
    e = (s.elapse dt).setMail { s.mail with inbound := rest } →
    (n.kind = 1 → s.cont.lockout = false → s.configValid = true → ∀ j : State,
        j = e.setCont { e.cont with joinRequested := true } →
        (s.cont.joinRequested = true → exec (.rackJoin dt) s = .next e)
        ∧ (¬ j.mayJoin ∨ s.cont.state ≠ .rackOpen → exec (.rackJoin dt) s = .next j)
        ∧ (s.cont.joinRequested = false → j.mayJoin → s.cont.state = .rackOpen →
            (500 ≤ s.meas.summary.vbus → exec (.rackJoin dt) s = .next (j.setCont
              { j.cont with state := .waitMatch, closeTimer := none, openTimer := none, matchCount := 0 }))
            ∧ (s.meas.summary.vbus < 500 → s.cont.claimSeen = none → s.mail.outbound.length < 8 →
                exec (.rackJoin dt) s = .next ((j.setCont
                  { j.cont with
                    state := .claiming, closeTimer := none, openTimer := none, matchCount := 0, claim := s.cont.claim + 1 }).setMail
                  { e.mail with outbound :=
                      insertNotice ⟨.control, 31, .deadBusClaim, [], .cont (s.cont.claim + 1), .waiting⟩ s.mail.outbound }))
            ∧ (s.meas.summary.vbus < 500 → s.cont.claimSeen ≠ none → exec (.rackJoin dt) s = .next j)))
    ∧ (n.kind = 2 → ∀ j : State, j = e.setCont { e.cont with joinRequested := false } →
        (s.cont.state = .closing ∨ s.cont.state = .closed →
          (s.cont.auxClosed = true → exec (.rackLeave dt) s = .next (j.setCont
            { j.cont with state := .opening, closeTimer := none, openTimer := some 0, matchCount := 0 }))
          ∧ (s.cont.auxClosed = false → exec (.rackLeave dt) s = .next (j.setCont
            { j.cont with
              state := if s.cont.lockout then .lockout else .rackOpen
              closeTimer := none, openTimer := none, matchCount := 0 })))
        ∧ (s.cont.state = .waitMatch → exec (.rackLeave dt) s = .next (j.setCont
            { j.cont with state := .rackOpen, closeTimer := none, openTimer := none, matchCount := 0 }))
        ∧ (s.cont.state = .claiming → exec (.rackLeave dt) s = .next ((j.setMail
            { j.mail with outbound := withdrawFirst s.mail.outbound }).setCont
            { j.cont with state := .rackOpen, closeTimer := none, openTimer := none, matchCount := 0 }))
        ∧ (s.cont.state = .rackOpen ∨ s.cont.state = .opening ∨ s.cont.state = .welded ∨ s.cont.state = .lockout →
            exec (.rackLeave dt) s = .next j))

/-- A peer's DEAD_BUS_CLAIM starts the claim-seen timer afresh and takes CLAIMING back to OPEN (R121); the timer's expiry is an evaluation
(R117, R118); the outcome of the own claim ends CLAIMING by the bus (R122), and the outcome of any other claim changes nothing. A withdrawal
removes the oldest claim in the queue, also where it is the candidate and has lost, or marks it where its arbitration has not ended (log 40),
and removes nothing from a queue without one (R53). That a claim withdrawn already is passed over is the model's choice (log 30). -/
def Obligations.DeadBusClaimsTakeTurns : Prop :=
  (∀ (dt : Nat) (n : InNotice) (rest : List InNotice) (s e : State), s.powered = true → s.mail.inbound = n :: rest → n.kind = 19 →
    n.payload = [] → e = (s.elapse dt).setMail { s.mail with inbound := rest } →
    (s.cont.state ≠ .claiming → exec (.deadBusClaim dt) s = .next (e.setCont { e.cont with claimSeen := some 0 }))
    ∧ (s.cont.state = .claiming → exec (.deadBusClaim dt) s = .next ((e.setMail
        { e.mail with outbound := withdrawFirst s.mail.outbound }).setCont
        { e.cont with claimSeen := some 0, state := .rackOpen, closeTimer := none, openTimer := none, matchCount := 0 })))
  ∧ (∀ (dt n : Nat) (s x : State), s.powered = true → s.cont.claimSeen = some n → 1000000 ≤ n + dt → s.contactorSafe →
    x = (s.elapse dt).setCont { (s.elapse dt).cont with claimSeen := none } →
    (s.cont.state ≠ .rackOpen ∨ ¬ s.mayJoin → exec (.claimSeenExpiry dt) s = .next x)
    ∧ (s.cont.state = .rackOpen → s.mayJoin →
        (500 ≤ s.meas.summary.vbus → exec (.claimSeenExpiry dt) s = .next (x.setCont
          { x.cont with state := .waitMatch, closeTimer := none, openTimer := none, matchCount := 0 }))
        ∧ (s.meas.summary.vbus < 500 → s.mail.outbound.length < 8 → exec (.claimSeenExpiry dt) s = .next ((x.setCont
            { x.cont with
              state := .claiming, closeTimer := none, openTimer := none, matchCount := 0, claim := s.cont.claim + 1 }).setMail
            { s.mail with outbound :=
                insertNotice ⟨.control, 31, .deadBusClaim, [], .cont (s.cont.claim + 1), .waiting⟩ s.mail.outbound }))))
  ∧ (∀ (m : OutNotice) (k : Nat) (ack : Bool) (s : State), m.kind = .deadBusClaim → m.owner = .cont k →
    (s.cont.state = .claiming → s.cont.claim = k → 500 ≤ s.meas.summary.vbus →
      noticeOutcome m ack s = s.setCont
        { s.cont with state := .waitMatch, closeTimer := none, openTimer := none, matchCount := 0 })
    ∧ (s.cont.state = .claiming → s.cont.claim = k → s.meas.summary.vbus < 500 → s.cont.auxClosed = false →
      noticeOutcome m ack s = s.setCont
        { s.cont with state := .closing, closeTimer := some 0, openTimer := none, matchCount := 0 })
    ∧ (s.cont.state ≠ .claiming ∨ s.cont.claim ≠ k → noticeOutcome m ack s = s))
  ∧ (∀ (front back : List OutNotice) (m : OutNotice) (s : State), (∀ q ∈ front, q.kind ≠ .deadBusClaim) → m.kind = .deadBusClaim →
    (s.mail.outbound = front → withdrawClaim s = s)
    ∧ (s.mail.outbound = front ++ m :: back → m.mark = .waiting ∨ m.mark = .lost →
      withdrawClaim s = s.setMail { s.mail with outbound := front ++ back })
    ∧ (s.mail.outbound = front ++ m :: back → m.mark = .contending →
      withdrawClaim s = s.setMail { s.mail with outbound := front ++ { m with mark := .withdrawn } :: back }))

/-- The table of R116: each filtered change of CONT_AUX, by contactor state. A level that has not stood 5 ms since the filtered one was
taken changes nothing (log 5: the model's choice of how a filtered level comes in). A closure at the very instant at which a failed close
was taken first finds the rack in OPENING, whose open timer handles it (R123, log 36). That a level equal to the filtered one only lets the
time pass is the model's choice (log 2), and so is which claim a closure in CLAIMING withdraws (logs 30 and 40). -/
def Obligations.ContactChangeMovesTheContactor : Prop :=
  ∀ (dt : Nat) (s e c : State), s.powered = true → e = s.elapse dt →
    (∀ level, level = s.cont.auxClosed ∨ s.cont.auxAge + dt < 5000 → exec (.contAuxChange dt level) s = .next e)
    ∧ (s.cont.auxClosed = false → 5000 ≤ s.cont.auxAge + dt →
        c = e.setCont { e.cont with auxClosed := true, auxAge := 0, closeExpired := false } →
        (s.cont.state = .closing → exec (.contAuxChange dt true) s = .next (c.setCont
          { c.cont with state := .closed, closeTimer := none, openTimer := none, matchCount := 0 }))
        ∧ ((s.cont.state = .rackOpen ∨ s.cont.state = .lockout) → s.cont.closeExpired = true → dt = 0 →
            exec (.contAuxChange dt true) s = .next (c.setCont
              { c.cont with state := .opening, closeTimer := none, openTimer := some 0, matchCount := 0 }))
        ∧ ((s.cont.state = .rackOpen ∨ s.cont.state = .lockout) ∧ (s.cont.closeExpired = false ∨ 0 < dt) ∨ s.cont.state = .waitMatch →
            exec (.contAuxChange dt true) s = .next ((c.setCont
              { c.cont with state := .welded, welded := true, closeTimer := none, openTimer := none, matchCount := 0 }).setAlw
              { s.alw with published := ⟨0, 0⟩ }))
        ∧ (s.cont.state = .claiming → exec (.contAuxChange dt true) s = .next (((c.setMail
              { s.mail with outbound := withdrawFirst s.mail.outbound }).setCont
              { c.cont with state := .welded, welded := true, closeTimer := none, openTimer := none, matchCount := 0 }).setAlw
              { s.alw with published := ⟨0, 0⟩ }))
        ∧ (s.cont.state = .closed ∨ s.cont.state = .opening ∨ s.cont.state = .welded →
            exec (.contAuxChange dt true) s = .next c))
    ∧ (s.cont.auxClosed = true → 5000 ≤ s.cont.auxAge + dt → c = e.setCont { e.cont with auxClosed := false, auxAge := 0 } →
        (s.cont.state = .closed → exec (.contAuxChange dt false) s = .next (c.setCont
          { c.cont with state := .rackOpen, closeFail := true, closeTimer := none, openTimer := none, matchCount := 0 }))
        ∧ (s.cont.state = .opening ∨ s.cont.state = .welded → exec (.contAuxChange dt false) s = .next (c.setCont
          { c.cont with
            state := if s.cont.lockout then .lockout else .rackOpen
            closeTimer := none, openTimer := none, matchCount := 0 }))
        ∧ (s.cont.state = .rackOpen ∨ s.cont.state = .waitMatch ∨ s.cont.state = .claiming ∨ s.cont.state = .closing
            ∨ s.cont.state = .lockout → exec (.contAuxChange dt false) s = .next c))

/-- A close that is not confirmed in 100 ms fails: CLOSE_FAIL, the request forgotten, and on to OPEN when the contact reads open (R123, R125),
with that instant kept (log 36); an opening that is not confirmed in 100 ms is WELDED, which caps the published pair (R125, R108); the 400th
tick of a hold locks the rack out in each state (R127), and withdraws a claim there (logs 30 and 40). -/
def Obligations.ContactorTimersExpire : Prop :=
  ∀ (dt : Nat) (s e : State), s.powered = true → e = s.elapse dt →
    (∀ n, s.cont.state = .closing → s.cont.closeTimer = some n → 100000 ≤ n + dt →
      (s.cont.auxClosed = false → exec (.closeTimerExpiry dt) s = .next (e.setCont
        { e.cont with
          state := if s.cont.lockout then .lockout else .rackOpen
          joinRequested := false, closeFail := true, closeTimer := none, openTimer := none, matchCount := 0, closeExpired := true }))
      ∧ (s.cont.auxClosed = true → exec (.closeTimerExpiry dt) s = .next (e.setCont
        { e.cont with
          state := .opening, joinRequested := false, closeFail := true, closeTimer := none, openTimer := some 0, matchCount := 0
          closeExpired := false })))
    ∧ (∀ n, s.cont.state = .opening → s.cont.auxClosed = true → s.cont.openTimer = some n → 100000 ≤ n + dt →
      exec (.openTimerExpiry dt) s = .next ((e.setCont
        { e.cont with state := .welded, welded := true, closeTimer := none, openTimer := none, matchCount := 0 }).setAlw
        { s.alw with published := ⟨0, 0⟩ }))
    ∧ (s.cont.holdTicks = some 400 → s.cont.isolateRead = true → s.cont.isolateLevel = true → ∀ l : State,
      l = e.setCont { e.cont with lockout := true } →
      (s.cont.state = .rackOpen ∨ s.cont.state = .waitMatch → exec (.isolateHoldExpiry dt) s = .next (l.setCont
        { l.cont with state := .lockout, closeTimer := none, openTimer := none, matchCount := 0 }))
      ∧ (s.cont.state = .claiming → exec (.isolateHoldExpiry dt) s = .next ((l.setMail
        { s.mail with outbound := withdrawFirst s.mail.outbound }).setCont
        { l.cont with state := .lockout, closeTimer := none, openTimer := none, matchCount := 0 }))
      ∧ (s.cont.state = .closing ∨ s.cont.state = .closed →
        (s.cont.auxClosed = true → exec (.isolateHoldExpiry dt) s = .next (l.setCont
          { l.cont with state := .opening, closeTimer := none, openTimer := some 0, matchCount := 0 }))
        ∧ (s.cont.auxClosed = false → exec (.isolateHoldExpiry dt) s = .next (l.setCont
          { l.cont with state := .lockout, closeTimer := none, openTimer := none, matchCount := 0 })))
      ∧ (s.cont.state = .opening ∨ s.cont.state = .welded ∨ s.cont.state = .lockout →
        exec (.isolateHoldExpiry dt) s = .next l))

/-! ### ALARM_RESET -/

/-- ALARM_RESET at its owners (R58): the flags of LINK, MEAS (R72), CONT (R129) and CFG (R194), the cell latches (R86), OVERCURRENT (R89),
the fire latches, the HOLD drive formed again and the local stage evaluated (R154, R157): an earlier ALARM stands while a detector or a call
point counts as active, and is cleared otherwise. A countdown is cancelled, its remaining time and its held flag cleared (R163). One
FIRE_REPORT, with the station as it then stands, goes with a local stage change or a cancelled countdown (R159; one for both: the model's
choice, log 14), and none otherwise. With the released latch set it is refused with STATE, and every other owner takes it all the same; the
latch stands. -/
def Obligations.AlarmResetClearsWhatItsOwnersAllow : Prop :=
  ∀ (dt : Nat) (n : InNotice) (rest : List InNotice) (s : State), s.powered = true → s.mail.inbound = n :: rest → n.kind = 6 →
    n.source ∈ s.config.commanders → n.payload = [] → s.link.state ≠ .fault → s.mail.outbound.length ≤ 5 →
    ∃ t, exec (.alarmReset dt) s = .next t
      ∧ t.mail.inbound = rest ∧ t.mail.noticeUndelivered = false ∧ t.mail.outboundDropped = false ∧ t.mail.inboundOverrun = false
      ∧ t.monitor = { s.monitor with stranger := false }
      ∧ t.meas.sensorFault = (s.meas.sensorFault && s.anyTempFault)
      ∧ t.cell.overcurrent = false ∧ t.cell.overCount = 0
      ∧ (∀ i < 16, ∀ ch, ch = s.cell.chans.getD i ⟨.normal, 0, 0, 0, 0, .none⟩ →
          t.cell.chans.getD i ⟨.normal, 0, 0, 0, 0, .none⟩ =
            if i < s.config.cellCount ∧ (ch.cls = .lowTrip ∨ ch.cls = .highTrip ∨ ch.cls = .openWire)
                ∧ s.config.lowWarn + s.config.cellHyst < s.meas.result.values.getD i 0
                ∧ s.meas.result.values.getD i 0 < s.config.highWarn - s.config.cellHyst
                ∧ s.meas.result.openMarks.getD i false = false
            then ⟨.normal, 0, 0, 0, 0, ch.lastSide⟩ else ch)
      ∧ t.cont.closeFail = false ∧ (t.cont.welded = true ↔ s.cont.welded = true ∧ s.cont.state = .welded)
      ∧ t.cont.joinRequested = s.cont.joinRequested ∧ t.cont.lockout = s.cont.lockout
      ∧ t.fire.lines = s.fire.lines.map (fun l => if l.filtered = .normal then { l with latch := false, lineFault := false } else l)
      ∧ (t.fire.holdDrive = true ↔ ∃ i < 6, t.lineCounts i ∧ (t.config.lines.getD i ⟨.unused, .level⟩).type ∈ [LineType.hold, .door])
      ∧ (t.fire.localStage = .alarm ↔ (∃ i < 6, t.callpointCounts i) ∨ (∃ i < 6, ∃ j < i, t.detectorCounts i ∧ t.detectorCounts j)
          ∨ (∃ i < 6, t.detectorCounts i) ∧ (t.coincides ∨ s.fire.localStage = .alarm))
      ∧ (t.fire.localStage = .preAlarm ↔ t.fire.localStage ≠ .alarm ∧ ∃ i < 6, t.detectorCounts i)
      ∧ (t.fire.localStage = .normal ↔ t.fire.localStage ≠ .alarm ∧ ∀ i < 6, ¬ t.detectorCounts i)
      ∧ t.cfg.roleYielded = false
      ∧ (∀ cancel : Bool, (cancel = true ↔ s.holds .supp = true ∧ s.readDone = true ∧ s.retained.releasedLatch = false
            ∧ s.supp.releasePending = true) →
          t.supp = (if cancel then { (s.elapse dt).supp with releasePending := false, remaining := 0, held := false }
            else (s.elapse dt).supp)
          ∧ (cancel = true ∨ t.fire.localStage ≠ s.fire.localStage →
              (⟨.safety, 31, .fireReport, [BitVec.ofNat 8 t.publishedStage.rank, t.activeLines, t.faultedLines], .fire, .waiting⟩ : OutNotice)
                ∈ t.mail.outbound)
          ∧ (t.mail.outbound.filter (·.kind == .fireReport)).length = (s.mail.outbound.filter (·.kind == .fireReport)).length
              + (if cancel = true ∨ t.fire.localStage ≠ s.fire.localStage then 1 else 0))
      ∧ (s.retained.releasedLatch = true → n.dest ≠ 31 →
          (⟨.control, n.source, .result, [6, 6], .link, .waiting⟩ : OutNotice) ∈ t.mail.outbound)
      ∧ t.retained = s.retained ∧ t.link = (s.elapse dt).link ∧ t.rcv = s.rcv ∧ t.grid = (s.elapse dt).grid
      ∧ t.plant = (s.elapse dt).plant ∧ t.meas.summary = s.meas.summary ∧ t.alw.computed = s.alw.computed

/-! ### MEAS, CELL -/

/-- A scan starts at 100 ms with every bleed driver off (R65, R66); conversion k of a scan ends 2 ms + (k + 1) × 0.5 ms after the scan
start: its code, clamped to the converter's range (R68), is kept, and the calibrated value (R69) is written into the write page, or the
last good value, or −400, for a temperature code outside 50 to 2000 (R70, R71). -/
def Obligations.ScansConvertTheChannelsInOrder : Prop :=
  ∀ (dt : Nat) (s e : State), s.powered = true → e = s.elapse dt →
    (∀ n, s.meas.scanTimer = some n → 100000 ≤ n + dt →
      exec (.scanStart dt) s = .next ((e.setCell { s.cell with bleed := List.replicate 16 false }).setMeas
        { e.meas with scanTimer := some (n + dt - 100000), scan := some ⟨0, 0, List.replicate 26 0⟩ }))
    ∧ (∀ (code raw v : Int) (g : Calib) (scan : Scan) (ch : Nat), s.meas.scan = some scan →
      (channelsInUse s.config)[scan.done]? = some ch → 2000 + 500 * (scan.done + 1) ≤ scan.time + dt →
      raw = (if ch = 24 then max (-32768) (min 32767 code) else max 0 (min 65535 code)) →
      g = s.config.calib.getD ch ⟨16384, 0⟩ →
      (ch < 16 → v = max 0 (min 5000 ((raw * g.gain + 81920) / 163840 + g.offset))) →
      (16 ≤ ch → ch < 24 → 50 ≤ raw → raw ≤ 2000 →
        v = max (-400) (min 1250 ((raw * g.gain + 8192) / 16384 + g.offset - 400))) →
      (16 ≤ ch → ch < 24 → raw < 50 ∨ 2000 < raw →
        v = ((s.meas.temps.getD (ch - 16) ⟨0, none, .unformed⟩).lastGood).getD (-400)) →
      (ch = 24 → v = max (-32768) (min 32767 ((raw * g.gain + 8192) / 16384 + g.offset))) →
      (ch = 25 → v = max 0 (min 65535 ((raw * g.gain + 8192) / 16384 + g.offset))) →
      ∀ m : Meas, m = { e.meas with scan := some ⟨scan.time + dt, scan.done + 1, scan.raws.set ch raw⟩ } →
        (s.meas.readOne = true → exec (.conversionEnd dt code) s = .next (e.setMeas
          { m with page0 := { s.meas.page0 with values := s.meas.page0.values.set ch v } }))
        ∧ (s.meas.readOne = false → exec (.conversionEnd dt code) s = .next (e.setMeas
          { m with page1 := { s.meas.page1 with values := s.meas.page1.values.set ch v } })))

/-- A scan completion. MEAS: the scan number rises, the summary is of the scan's values, the page is swapped unless it is held, SENSOR_FAULT
is set by a faulted channel, and each temperature channel takes its fault count, last good value and state (R70, R71, R75). CELL: the classes,
the overcurrent count (R88, R89), the bleed set: while balancing is allowed (R91), the candidates of R92, the largest excess first and the
lower index before an equal one, up to the configured maximum and 8. ALW: the pending profile is active, the computed pair is that of its
tables, knees and caps (R101 to R105), and the published pair rises by one step at most and is capped by the fire stages and WELDED (R106,
R107). THERM: the base level follows Tmax (R132), and the levels and outputs. PLANT: outside ACTIVE it evaluates at its own zone's level
(R146). CONT: the evaluation, the return from WAIT_MATCH on a dead bus, and the match test (R117 to R119); an evaluation that fails withdraws
a claim (R53, R117; logs 30 and 40). GRID, FIRE, SUPP and LINK's frame stand, and CFG but for a claim of its own that a full outbound queue
drops (R52, R192). -/
def Obligations.ScanCompletionReachesTheConsumers : Prop :=
  ∀ (dt : Nat) (scan : Scan) (v : List Int) (s e : State), s.powered = true → s.meas.scan = some scan → e = s.elapse dt →
    scan.done = (channelsInUse s.config).length → v = s.scanValues scan.raws → 1 ≤ s.config.cellCount → s.config.cellCount ≤ 16 →
    ∃ t, exec (.scanCompletion dt) s = .next t
      ∧ t.meas.scan = none ∧ t.meas.scanNumber = s.meas.scanNumber + 1 ∧ t.meas.scanTimer = (s.elapse dt).meas.scanTimer
      ∧ t.meas.result.values = v
      ∧ (∀ i < 16, t.meas.result.openMarks.getD i false = true ↔ i < s.config.cellCount ∧ scan.raws.getD i 0 < s.config.openWire)
      ∧ (s.meas.pageHold = false → t.meas.readPage = ⟨v, s.meas.scanNumber + 1⟩ ∧ t.meas.writePage = s.meas.readPage)
      ∧ (s.meas.pageHold = true → t.meas.writePage = ⟨v, s.meas.scanNumber + 1⟩ ∧ t.meas.readPage = s.meas.readPage)
      ∧ t.meas.summary.valid = true ∧ t.meas.summary.current = v.getD 24 0 ∧ t.meas.summary.vbus = v.getD 25 0
      ∧ t.meas.summary.vsum = ((List.range s.config.cellCount).map fun i => v.getD i 0).sum
      ∧ (∀ i < s.config.cellCount, t.meas.summary.vmin ≤ v.getD i 0 ∧ v.getD i 0 ≤ t.meas.summary.vmax)
      ∧ (∃ i < s.config.cellCount, t.meas.summary.vmin = v.getD i 0)
      ∧ (∃ i < s.config.cellCount, t.meas.summary.vmax = v.getD i 0)
      ∧ (t.meas.sensorFault = true ↔ s.meas.sensorFault = true
          ∨ ∃ k < 8, s.config.tempSet.getLsbD k = true ∧ (scan.raws.getD (16 + k) 0 < 50 ∨ 2000 < scan.raws.getD (16 + k) 0))
      ∧ s.tempsSettled scan.raws v t
      ∧ t.cell.overCount = (if (s.alw.published.dis : Int) * 12 + 50 < v.getD 24 0
          ∨ (s.alw.published.chg : Int) * 12 + 50 < -v.getD 24 0 then min 5 (s.cell.overCount + 1) else 0)
      ∧ (t.cell.overcurrent = true ↔ s.cell.overcurrent = true ∨ t.cell.overCount = 5)
      ∧ (∀ i < s.config.cellCount, t.cell.chans.getD i ⟨.normal, 0, 0, 0, 0, .none⟩ =
          (s.cell.chans.getD i ⟨.normal, 0, 0, 0, 0, .none⟩).scan s.config (v.getD i 0) (t.meas.result.openMarks.getD i false))
      ∧ (∀ (cand : Nat → Bool) (i : Nat), i < 16 →
          (∀ j, cand j = true ↔ j < s.config.cellCount ∧ s.config.window < v.getD j 0 - t.meas.summary.vmin
            ∧ ((t.cell.chans.getD j ⟨.normal, 0, 0, 0, 0, .none⟩).cls = .normal
              ∨ (t.cell.chans.getD j ⟨.normal, 0, 0, 0, 0, .none⟩).cls = .highWarn)) →
          (t.cell.bleed.getD i false = true ↔
            s.cell.balanceEnable = true ∧ s.fire.localStage = .normal ∧ s.rcv.stage = .normal ∧ v.getD 24 0 ≤ 20
              ∧ t.meas.summary.tmax < s.config.balanceTemp ∧ t.anyTrip = false ∧ cand i = true
              ∧ ((List.range 16).filter fun j => cand j && (decide (v.getD i 0 < v.getD j 0)
                  || (v.getD j 0 == v.getD i 0 && decide (j < i)))).length < min s.config.maxBleed 8))
      ∧ t.alw.active = s.alw.pendingProfile.getD s.alw.active ∧ t.alw.pendingProfile = none
      ∧ (∀ (p : Profile) (cap : Int) (m : Summary), p = s.config.profiles.getD t.alw.active builtInProfile → m = t.meas.summary →
          cap = (if m.expired ≠ 0 ∨ t.anyTrip = true ∨ s.configValid = false then 0
            else if s.rcv.degraded then (s.config.degradedCap : Int) else 100) →
          t.alw.computed.chg = ((s.config.rated : Int) * min (min (min (tableValue m.tmin p.charge) (tableValue m.tmax p.charge))
            (chargePercent p m.vmax)) cap / 100).toNat
          ∧ t.alw.computed.dis = ((s.config.rated : Int) * min (min (min (tableValue m.tmin p.discharge) (tableValue m.tmax p.discharge))
            (dischargePercent p m.vmin)) cap / 100).toNat)
      ∧ (∀ chg dis : Nat, chg = min t.alw.computed.chg (s.alw.published.chg + s.config.riseStep) →
          dis = min t.alw.computed.dis (s.alw.published.dis + s.config.riseStep) →
          t.alw.published = (if s.capStage.isAlarm = true ∨ s.cont.state = .welded then ⟨0, 0⟩
            else if s.capStage = .preAlarm then ⟨0, dis⟩ else ⟨chg, dis⟩))
      ∧ t.alw.computed.chg ≤ s.config.rated ∧ t.alw.computed.dis ≤ s.config.rated
      ∧ t.alw.published.chg ≤ t.alw.computed.chg ∧ t.alw.published.dis ≤ t.alw.computed.dis
      ∧ t.alw.published.chg ≤ s.alw.published.chg + s.config.riseStep
      ∧ t.alw.published.dis ≤ s.alw.published.dis + s.config.riseStep
      ∧ (t.anyTrip = true ∨ s.configValid = false ∨ t.meas.summary.expired ≠ 0 → t.alw.computed = ⟨0, 0⟩)
      ∧ t.therm.base = nextBase s.config t.meas.summary.tmax s.therm.base
      ∧ (s.capStage.isAlarm = true → t.therm.published = 0 ∧ t.therm.fan = 0 ∧ t.therm.damper = false ∧ t.therm.override = true)
      ∧ (s.capStage.isAlarm = false → t.therm.override = false
          ∧ t.therm.published = (if 4 ≤ t.bleedCount ∨ s.config.rated * 5 < (v.getD 24 0).natAbs then min 15 (t.therm.base + 1)
              else t.therm.base)
          ∧ t.therm.fan = (if t.therm.published = 0 then 0 else 25 + 5 * t.therm.published)
          ∧ (t.therm.damper = true ↔ t.therm.published ≠ 0))
      ∧ t.outputs.fan = t.therm.fan ∧ t.outputs.zdamp = t.therm.damper
      ∧ t.link = (s.elapse dt).link ∧ t.rcv = s.rcv ∧ t.monitor = s.monitor ∧ t.fire = s.fire ∧ t.supp = (s.elapse dt).supp
      ∧ t.grid = (s.elapse dt).grid ∧ t.retained = s.retained ∧ t.mail.inbound = s.mail.inbound
      ∧ t.alw.limits = s.alw.limits ∧ t.indicator = (s.elapse dt).indicator
      ∧ (s.link.state = .active → t.plant = e.plant)
      ∧ (s.link.state ≠ .active → t.plant = (plantEvaluate t.therm.published false e).plant)
      ∧ (t.mayJoin → e.contScanned (500 ≤ v.getD 25 0)
          ((t.meas.summary.vsum - v.getD 25 0 * 10).natAbs ≤ s.config.matchWindow) t)
      ∧ (¬ t.mayJoin → e.contFailed t)
      ∧ (¬ t.mayJoin → s.link.state = .active ∨ s.cfg.rivals.plant = none → t.mail = { s.mail with
          outbound := if s.cont.state = .claiming then withdrawFirst s.mail.outbound else s.mail.outbound })
      ∧ t.cont.joinRequested = s.cont.joinRequested ∧ t.cont.auxClosed = s.cont.auxClosed ∧ t.cont.claimSeen = e.cont.claimSeen
      ∧ t.cfg = { s.cfg with reclaim := t.cfg.reclaim } ∧ (s.mail.outbound.length < 8 → t.cfg = s.cfg)

/-- One channel at a scan completion (R82 to R85): the three runs count scans of that severity or more, a class is entered only at a
run of 3 and only upward, and a latched class stands. The exit count counts the scans in a row that meet the exit condition of a WARN class,
and is 0 in every other class and where the class changes; at 5 the WARN class is left, for NORMAL, or for the warning of the other side where
the warn run still stands at 3; below three trips and short of 5 it stands. -/
def Obligations.CellClassesMoveByRuns : Prop :=
  ∀ (c : Config) (v : Int) (mark : Bool) (ch r : CellChan), r = ch.scan c v mark →
    ch.warnRun ≤ 3 → ch.tripRun ≤ 3 → ch.openRun ≤ 3 → c.lowTrip < c.lowWarn → c.lowWarn < c.highWarn → c.highWarn < c.highTrip →
    0 ≤ c.cellHyst →
    r.warnRun = (if mark = true ∨ v ≤ c.lowWarn ∨ c.highWarn ≤ v then min 3 (ch.warnRun + 1) else 0)
    ∧ r.tripRun = (if mark = true ∨ v ≤ c.lowTrip ∨ c.highTrip ≤ v then min 3 (ch.tripRun + 1) else 0)
    ∧ r.openRun = (if mark = true then min 3 (ch.openRun + 1) else 0)
    ∧ r.lastSide = (if mark = true then ch.lastSide else if v ≤ c.lowWarn then .low else if c.highWarn ≤ v then .high else ch.lastSide)
    ∧ (r.openRun = 3 → r.cls = .openWire)
    ∧ (r.openRun < 3 → r.tripRun = 3 → ch.cls.severity < 2 → r.cls = if r.lastSide = .low then .lowTrip else .highTrip)
    ∧ (r.openRun < 3 → r.tripRun < 3 → r.warnRun = 3 → ch.cls = .normal →
        r.cls = if r.lastSide = .low then .lowWarn else .highWarn)
    ∧ (r.openRun < 3 → r.tripRun < 3 → r.warnRun < 3 → ch.cls = .normal → r.cls = .normal)
    ∧ (ch.cls.latched = true → r.openRun < 3 → r.cls = ch.cls)
    ∧ (ch.cls = .highWarn → r.tripRun < 3 → r.openRun < 3 →
        (r.cls = .normal ↔ 4 ≤ ch.exitCount ∧ v < c.highWarn - c.cellHyst ∧ mark = false ∧ r.warnRun < 3))
    ∧ (ch.cls = .lowWarn → r.tripRun < 3 → r.openRun < 3 →
        (r.cls = .normal ↔ 4 ≤ ch.exitCount ∧ c.lowWarn + c.cellHyst < v ∧ mark = false ∧ r.warnRun < 3))
    ∧ (∀ met : Bool, (met = true ↔ mark = false
          ∧ (ch.cls = .highWarn ∧ v < c.highWarn - c.cellHyst ∨ ch.cls = .lowWarn ∧ c.lowWarn + c.cellHyst < v)) →
        (ch.cls = .highWarn ∨ ch.cls = .lowWarn → r.tripRun < 3 → r.openRun < 3 →
          (met = true → 4 ≤ ch.exitCount → r.exitCount = 0
            ∧ r.cls = if r.warnRun < 3 then .normal else if r.lastSide = .low then .lowWarn else .highWarn)
          ∧ (met = true → ch.exitCount < 4 → r.exitCount = ch.exitCount + 1 ∧ r.cls = ch.cls)
          ∧ (met = false → r.exitCount = 0 ∧ r.cls = ch.cls))
        ∧ (ch.cls ≠ .highWarn ∧ ch.cls ≠ .lowWarn ∨ r.cls ≠ ch.cls → r.exitCount = 0))

/-! ### ALW -/

/-- The table of R101, with its bounds and its value at a breakpoint. -/
def Obligations.TableValueInterpolatesWithFloor : Prop :=
  ∀ (t : Int) (b0 b1 b2 b3 b4 b5 : Breakpoint) (table : List Breakpoint), table = [b0, b1, b2, b3, b4, b5] →
    b0.temp < b1.temp → b1.temp < b2.temp → b2.temp < b3.temp → b3.temp < b4.temp → b4.temp < b5.temp →
    (∀ b ∈ table, 0 ≤ b.percent ∧ b.percent ≤ 100) →
    (t < b0.temp → tableValue t table = b0.percent)
    ∧ (b5.temp ≤ t → tableValue t table = b5.percent)
    ∧ (∀ p ∈ [(b0, b1), (b1, b2), (b2, b3), (b3, b4), (b4, b5)], p.1.temp ≤ t → t < p.2.temp →
        tableValue t table = p.1.percent + (p.2.percent - p.1.percent) * (t - p.1.temp) / (p.2.temp - p.1.temp)
        ∧ min p.1.percent p.2.percent ≤ tableValue t table ∧ tableValue t table ≤ max p.1.percent p.2.percent)
    ∧ (∀ b ∈ table, tableValue b.temp table = b.percent)
    ∧ 0 ≤ tableValue t table ∧ tableValue t table ≤ 100

/-- The table of R103, with the four values that the rule works out: the percents enter the computed pair through the summary's Vmax and
Vmin, and every cell group in use counts in those, whatever its class or mark. -/
def Obligations.VoltagePercentsFollowTheKnees : Prop :=
  ∀ (p : Profile) (vmax vmin : Int), p.chargeKnee < p.chargeCeiling → p.dischargeFloor < p.dischargeKnee →
    (vmax ≤ p.chargeKnee → chargePercent p vmax = 100)
    ∧ (p.chargeCeiling ≤ vmax → chargePercent p vmax = 0)
    ∧ (p.chargeKnee < vmax → vmax < p.chargeCeiling →
        chargePercent p vmax = 100 * (p.chargeCeiling - vmax) / (p.chargeCeiling - p.chargeKnee))
    ∧ (p.dischargeKnee ≤ vmin → dischargePercent p vmin = 100)
    ∧ (vmin ≤ p.dischargeFloor → dischargePercent p vmin = 0)
    ∧ (p.dischargeFloor < vmin → vmin < p.dischargeKnee →
        dischargePercent p vmin = 100 * (vmin - p.dischargeFloor) / (p.dischargeKnee - p.dischargeFloor))
    ∧ (p.chargeKnee = 3450 → p.chargeCeiling = 3650 → chargePercent p 3451 = 99 ∧ chargePercent p 3649 = 0)
    ∧ (p.dischargeFloor = 2800 → p.dischargeKnee = 3000 → dischargePercent p 2999 = 99 ∧ dischargePercent p 2801 = 0)
    ∧ (∀ v w, v ≤ w → chargePercent p w ≤ chargePercent p v ∧ dischargePercent p v ≤ dischargePercent p w)
    ∧ (∀ s : State, s.computePair p = ⟨
        allowance s.config.rated (min (min (tempPercent p.charge s.meas.summary) (chargePercent p s.meas.summary.vmax)) s.capPercent),
        allowance s.config.rated (min (min (tempPercent p.discharge s.meas.summary) (dischargePercent p s.meas.summary.vmin)) s.capPercent)⟩)
    ∧ (∀ (c : Config) (values : List Int) (temps : List TempChan) (i : Nat), i < c.cellCount →
        (summaryOf c values temps).vmin ≤ values.getD i 0 ∧ values.getD i 0 ≤ (summaryOf c values temps).vmax)

/-! ### THERM and PLANT -/

/-- The base level of a zone after a completion (R132): up at once to the raw level, down by one below the lower edge by the hysteresis.
The edge of level L is Tb + (L − 1) × Ts. -/
def Obligations.ZoneLevelClimbsAtOnceAndFallsByOne : Prop :=
  ∀ (c : Config) (tmax : Int) (base : Nat), 0 < c.zoneStep → 0 ≤ c.zoneHyst → base ≤ 15 →
    nextBase c tmax base ≤ 15
    ∧ (∀ level, base < level → level ≤ 15 →
        (level ≤ nextBase c tmax base ↔ c.zoneBase + ((level : Int) - 1) * c.zoneStep ≤ tmax))
    ∧ (nextBase c tmax base < base → nextBase c tmax base = base - 1)
    ∧ (nextBase c tmax base = base - 1 ∧ 0 < base ↔
        0 < base ∧ tmax < c.zoneBase + ((base : Int) - 1) * c.zoneStep - c.zoneHyst)

/-- One evaluation of PLANT (R138 to R146): the target from demand, stage count and shedding; a fire stops every stage; otherwise at most
one stage stops, the highest running, after 180 s, or at most one starts, the lowest stopped, after 300 s off and 30 s since the last
start; FADAMP and the fault count. At the very instant of a limit an evaluation acts when the limit has been taken before it, and waits when
it has not (R140, log 37); PLANT_TIMER_LIMIT takes the limit of the timer that it names, where that has been reached. -/
def Obligations.PlantMovesOneStageAtATime : Prop :=
  (∀ (d target : Nat) (chFault : Bool) (s t : State), s.holds .plant = true → s.plant.stages.length = 4 →
    t = plantEvaluate d chFault s →
    target = (if s.rcv.gridPres = false ∧ d < 15 then min (min ((d + 3) / 4) s.config.stageCount) s.config.shedLevel
      else min ((d + 3) / 4) s.config.stageCount) →
    (s.rcv.stage.isAlarm = true ∨ s.link.state ≠ .active ∧ s.fire.localStage.isAlarm = true → t.runningStages = 0
      ∧ ∀ i < 4, ∀ g, s.plant.stages[i]? = some g →
        t.plant.stages[i]? = some (if g.running then { g with running := false, offTime := 0, offDone := false } else g))
    ∧ (s.rcv.stage.isAlarm = false → (s.link.state = .active ∨ s.fire.localStage.isAlarm = false) →
        (s.runningStages = target → t.plant.stages = s.plant.stages ∧ t.plant.stagger = s.plant.stagger)
        ∧ (target < s.runningStages → t.plant.stagger = s.plant.stagger ∧ ∀ i g, s.plant.stages[i]? = some g → g.running = true →
            (∀ j h, i < j → s.plant.stages[j]? = some h → h.running = false) →
            (∀ n, g.onTime = some n → 180000000 < n ∨ g.onDone = true →
              t.plant.stages = s.plant.stages.set i { g with running := false, offTime := 0, offDone := false })
            ∧ (∀ n, g.onTime = some n → n ≤ 180000000 → g.onDone = false → t.plant.stages = s.plant.stages))
        ∧ (s.runningStages < target → ∀ i g, s.plant.stages[i]? = some g → g.running = false →
            (∀ j h, j < i → s.plant.stages[j]? = some h → h.running = true) →
            (300000000 < g.offTime ∨ g.offDone = true →
              (s.plant.stagger = none ∨ ∃ n, s.plant.stagger = some n ∧ (30000000 < n ∨ s.plant.staggerDone = true)) →
              t.plant.stages = s.plant.stages.set i { g with running := true, onTime := some 0, onDone := false }
              ∧ t.plant.stagger = some 0 ∧ t.plant.staggerDone = false)
            ∧ (g.offTime ≤ 300000000 ∧ g.offDone = false
                ∨ (∃ n, s.plant.stagger = some n ∧ n ≤ 30000000) ∧ s.plant.staggerDone = false →
              t.plant.stages = s.plant.stages ∧ t.plant.stagger = s.plant.stagger)))
    ∧ (t.plant.fadamp = true ↔ s.rcv.stage = .normal ∧ 1 ≤ d ∧ d ≤ 3)
    ∧ t.plant.chFaults = (if s.link.state = .active ∧ chFault = true then min 2 (s.plant.chFaults + 1) else 0)
    ∧ t = s.setPlant t.plant)
  ∧ (∀ (dt k : Nat) (g : PlantStage) (s e : State), s.powered = true → e = s.elapse dt → e.plant.stages[k]? = some g →
    exec (.plantTimerLimit dt (.on (k + 1))) s = .next (e.setPlant { e.plant with stages := (e.plant.stages.set k
        { g with onDone := g.onDone || (g.onTime.any fun n => decide (180000000 ≤ n)) }) })
    ∧ exec (.plantTimerLimit dt (.off (k + 1))) s = .next (e.setPlant { e.plant with stages := (e.plant.stages.set k
        { g with offDone := g.offDone || decide (300000000 ≤ g.offTime) }) })
    ∧ exec (.plantTimerLimit dt .stagger) s = .next (e.setPlant { e.plant with
        staggerDone := e.plant.staggerDone || (e.plant.stagger.any fun n => decide (30000000 ≤ n)) }))

/-! ### SUPP -/

/-- The countdown expires (R164, R165): the released latch, REL_OUT, the confirmation watch, the stage RELEASED with its FIRE_REPORT, and what
RELEASED stops. That the report is queued also where another command has changed the local stage at the same time is the model's choice (log
33: R159 excepts a change at one instant, and two commands are two instants). REL_OUT is active while its pulse runs, which ends after 1 s; an
unconfirmed watch ends after 10 s in RELEASE_FAULT. -/
def Obligations.CountdownReleasesTheAgent : Prop :=
  ∀ (dt : Nat) (s : State), s.powered = true →
    (s.holds .supp = true → s.readDone = true → s.retained.releasedLatch = false → s.supp.releasePending = true →
      s.supp.held = false →
      s.supp.remaining ≤ dt → ∃ t, exec (.countdownExpiry dt) s = .next t
        ∧ t.retained = { s.retained with releasedLatch := true }
        ∧ t.supp = { (s.elapse dt).supp with releasePending := false, remaining := 0, relPulse := some 0, watch := some 0 }
        ∧ t.publishedStage = .released ∧ t.outputs.relOut = true
        ∧ t.alw.published = ⟨0, 0⟩ ∧ t.therm = { s.therm with published := 0, override := true, fan := 0, damper := false }
        ∧ t.cont.state.joining = false ∧ t.cont.joinRequested = s.cont.joinRequested
        ∧ (s.link.state ≠ .fault → s.mail.outbound.length < 8 →
            (⟨.safety, 31, .fireReport, [4, s.activeLines, s.faultedLines], .fire, .waiting⟩ : OutNotice) ∈ t.mail.outbound)
        ∧ t.fire = s.fire ∧ t.rcv = s.rcv ∧ t.link = (s.elapse dt).link ∧ t.grid = (s.elapse dt).grid
        ∧ t.plant = (s.elapse dt).plant ∧ t.cell = s.cell)
    ∧ (∀ n, s.supp.relPulse = some n → 1000000 ≤ n + dt →
      exec (.releasePulseEnd dt) s = .next ((s.elapse dt).setSupp { (s.elapse dt).supp with relPulse := none }))
    ∧ (∀ n, s.supp.watch = some n → 10000000 ≤ n + dt →
      exec (.confirmationWatchTimeout dt) s = .next ((s.elapse dt).setSupp
        { (s.elapse dt).supp with watch := none, releaseFault := true }))
    ∧ (s.outputs.relOut = true ↔ s.supp.relPulse ≠ none)

/-! ### GRID -/

/-- CLOSE_REQUEST by breaker state (R173): the request is set; from OPEN to RECONNECT_WAIT and, when the close test passes, on to CLOSING, or
to CLOSED when BRK_AUX already reads closed (R175, R176), with the limits computed then, their n counting all 32 bits of CLOSED (the model's
choice, log 31); refused with STATE or LOCKED_OUT. -/
def Obligations.CloseRequestFollowsTheBreakerState : Prop :=
  ∀ (dt : Nat) (n : InNotice) (rest : List InNotice) (s e j : State), s.powered = true → s.mail.inbound = n :: rest → n.kind = 3 →
    n.source ∈ s.config.commanders → n.payload = [] → s.holds .grid = true →
    e = (s.elapse dt).setMail { s.mail with inbound := rest } → j = e.setGrid { e.grid with closeRequested := true } →
    (s.grid.state = .reconnectWait ∨ s.grid.state = .closing ∨ s.grid.state = .closed ∨ s.grid.state = .tripping →
      exec (.closeRequest dt) s = .next j)
    ∧ (s.grid.state = .brkOpen → ¬ j.mayClose → exec (.closeRequest dt) s = .next ((j.setGrid
        { j.grid with state := .reconnectWait, closePulse := none, closeTimer := none }).setAlw
        { s.alw with limits := ⟨0, 0⟩, duties := ⟨0, 0⟩ }))
    ∧ (s.grid.state = .brkOpen → j.mayClose → s.grid.brkAux = false → exec (.closeRequest dt) s = .next ((j.setGrid
        { j.grid with state := .closing, closePulse := some 0, closeTimer := some 0 }).setAlw
        { s.alw with limits := ⟨0, 0⟩, duties := ⟨0, 0⟩ }))
    ∧ (s.grid.state = .brkOpen → j.mayClose → s.grid.brkAux = true → ∃ t, exec (.closeRequest dt) s = .next t
        ∧ t.grid = { j.grid with state := .closed, closePulse := none, closeTimer := none }
        ∧ t.limitsSafe ∧ t = (j.setGrid t.grid).setAlw t.alw)
    ∧ (∀ reason : Byte, s.grid.state = .breakerFault ∧ reason = 6 ∨ s.grid.state = .recloseLockout ∧ reason = 5 →
        (n.dest = 31 → exec (.closeRequest dt) s = .next e)
        ∧ (n.dest ≠ 31 → s.link.state ≠ .fault → s.mail.outbound.length < 8 → exec (.closeRequest dt) s = .next (e.setMail
            { e.mail with outbound :=
                insertNotice ⟨.control, n.source, .result, [3, reason], .link, .waiting⟩ s.mail.outbound })))

/-- OPEN_REQUEST by breaker state (R173, R178, R181): the request is cleared; RECONNECT_WAIT ends in OPEN, a closed breaker is tripped, a
breaker fault is left when the breaker reads open. Leaving to OPEN with a rival recorded claims the role again (R193). -/
def Obligations.OpenRequestFollowsTheBreakerState : Prop :=
  ∀ (dt : Nat) (n : InNotice) (rest : List InNotice) (s e j : State), s.powered = true → s.mail.inbound = n :: rest → n.kind = 4 →
    n.source ∈ s.config.commanders → n.payload = [] → s.holds .grid = true → s.grid.running = true →
    e = (s.elapse dt).setMail { s.mail with inbound := rest } → j = e.setGrid { e.grid with closeRequested := false } →
    (s.grid.state = .brkOpen ∨ s.grid.state = .tripping ∨ s.grid.state = .recloseLockout
      ∨ s.grid.state = .breakerFault ∧ s.grid.brkAux = true → exec (.openRequest dt) s = .next j)
    ∧ (s.grid.state = .reconnectWait ∨ s.grid.state = .breakerFault ∧ s.grid.brkAux = false → ∀ o : State,
        o = (j.setGrid { j.grid with state := .brkOpen, closePulse := none, closeTimer := none }).setAlw
          { s.alw with limits := ⟨0, 0⟩, duties := ⟨0, 0⟩ } →
        (s.retained.lockoutRecords < 3 → s.cfg.rivals.grid = none → exec (.openRequest dt) s = .next o)
        ∧ (s.retained.lockoutRecords < 3 → s.cfg.rivals.grid ≠ none → s.link.state ≠ .fault → s.mail.outbound.length < 8 →
            exec (.openRequest dt) s = .next (o.setMail { o.mail with
              outbound := insertNotice ⟨.control, 31, .roleClaim, [2, 0], .cfg, .waiting⟩ s.mail.outbound }))
        ∧ (3 ≤ s.retained.lockoutRecords → exec (.openRequest dt) s = .next (o.setGrid { o.grid with state := .recloseLockout })))
    ∧ (s.grid.state = .closing ∨ s.grid.state = .closed →
        (s.grid.brkAux = true → exec (.openRequest dt) s = .next ((j.setGrid
          { j.grid with
            state := .tripping, tripTimer := some 0, tripCause := some .openRequest, closePulse := none, closeTimer := none }).setAlw
          { s.alw with limits := ⟨0, 0⟩, duties := ⟨0, 0⟩ }))
        ∧ (s.grid.brkAux = false → 0 < s.config.reconnectDelay → ∃ t, exec (.openRequest dt) s = .next t
            ∧ j.tripCompleted .openRequest t ∧ t.grid.tripTimer = some 0))

/-- LOCKOUT_CLEAR acknowledges every record (R184); in RECLOSE_LOCKOUT it leads to OPEN when BRK_AUX reads open and to BREAKER_FAULT when it
reads closed. Leaving to OPEN with a rival recorded, GRID's in-operation flag goes from set to clear, and the role is claimed again (R193).
With close-requested set, OPEN is only passed through on the way to RECONNECT_WAIT and its close test (R175), and no claim is queued, which is
the model's choice (log 34). -/
def Obligations.LockoutClearAcknowledgesTheRecords : Prop :=
  ∀ (dt : Nat) (n : InNotice) (rest : List InNotice) (s e j : State), s.powered = true → s.mail.inbound = n :: rest → n.kind = 5 →
    n.source ∈ s.config.commanders → n.payload = [] → s.holds .grid = true →
    e = (s.elapse dt).setMail { s.mail with inbound := rest } →
    j = e.setRetained { s.retained with records := s.retained.records.map fun r => { r with acknowledged := true } } →
    j.retained.lockoutRecords = 0
    ∧ (s.grid.state ≠ .recloseLockout → exec (.lockoutClear dt) s = .next j)
    ∧ (s.grid.state = .recloseLockout → s.grid.brkAux = true → exec (.lockoutClear dt) s = .next ((j.setGrid
        { j.grid with state := .breakerFault, closePulse := none, closeTimer := none, tripTimer := none }).setAlw
        { s.alw with limits := ⟨0, 0⟩, duties := ⟨0, 0⟩ }))
    ∧ (s.grid.state = .recloseLockout → s.grid.brkAux = false → s.grid.closeRequested = false → ∀ o : State,
        o = (j.setGrid { j.grid with state := .brkOpen, closePulse := none, closeTimer := none }).setAlw
          { s.alw with limits := ⟨0, 0⟩, duties := ⟨0, 0⟩ } →
        (s.cfg.rivals.grid = none ∨ s.grid.running = false → exec (.lockoutClear dt) s = .next o)
        ∧ (s.cfg.rivals.grid ≠ none → s.grid.running = true → s.link.state ≠ .fault → s.mail.outbound.length < 8 →
            exec (.lockoutClear dt) s = .next (o.setMail { o.mail with
              outbound := insertNotice ⟨.control, 31, .roleClaim, [2, 0], .cfg, .waiting⟩ s.mail.outbound })))
    ∧ (s.grid.state = .recloseLockout → s.grid.brkAux = false → s.grid.closeRequested = true → ∀ w : State,
        w = (j.setGrid { j.grid with state := .reconnectWait, closePulse := none, closeTimer := none }).setAlw
          { s.alw with limits := ⟨0, 0⟩, duties := ⟨0, 0⟩ } →
        (¬ w.mayClose → exec (.lockoutClear dt) s = .next w)
        ∧ (w.mayClose → exec (.lockoutClear dt) s = .next (w.setGrid
            { w.grid with state := .closing, closePulse := some 0, closeTimer := some 0 })))

/-- GRID_OK, the reconnect delay and PCS_READY (R169, R170, R171, R175, R177, R178), each level once it can have stood its filter time since
the filtered one was taken, and no effect before (log 5: the model's choice of how a filtered level comes in): a rise starts the reconnect
timer, a fall stops it, clears the grid-present count and trips an engaged breaker with GRID_LOSS; the delay and a PCS_READY rise apply the
close test. -/
def Obligations.GridInputsDriveTheBreaker : Prop :=
  ∀ (dt : Nat) (s e f : State), s.powered = true → s.grid.running = true → e = s.elapse dt →
    (s.grid.gridOkAge + dt < 2000 → exec (.gridOkRise dt) s = .next e ∧ exec (.gridOkFall dt) s = .next e)
    ∧ (s.grid.pcsReadyAge + dt < 5000 → ∀ level, exec (.pcsReadyChange dt level) s = .next e)
    ∧ (s.grid.gridOk = false → 2000 ≤ s.grid.gridOkAge + dt →
        exec (.gridOkRise dt) s = .next (e.setGrid { e.grid with gridOk := true, gridOkAge := 0, reconnect := some 0 }))
    ∧ (s.grid.gridOk = true → 2000 ≤ s.grid.gridOkAge + dt →
        f = e.setGrid { e.grid with gridOk := false, gridOkAge := 0, presentCount := 0, reconnect := none } →
        (s.grid.state ≠ .closing → s.grid.state ≠ .closed → exec (.gridOkFall dt) s = .next f)
        ∧ (s.grid.state = .closing ∨ s.grid.state = .closed → s.grid.brkAux = true → exec (.gridOkFall dt) s = .next ((f.setGrid
            { f.grid with
              state := .tripping, tripTimer := some 0, tripCause := some .gridLoss, closePulse := none, closeTimer := none }).setAlw
            { s.alw with limits := ⟨0, 0⟩, duties := ⟨0, 0⟩ }))
        ∧ (s.grid.state = .closing ∨ s.grid.state = .closed → s.grid.brkAux = false → ∃ t, exec (.gridOkFall dt) s = .next t
            ∧ f.tripCompleted .gridLoss t ∧ t.grid.gridOk = false ∧ t.grid.tripTimer = some 0))
    ∧ (∀ x c, (x = e ∧ c = Instr.reconnectDelayReached dt
          ∨ s.grid.pcsReady = false ∧ 5000 ≤ s.grid.pcsReadyAge + dt
            ∧ x = e.setGrid { e.grid with pcsReady := true, pcsReadyAge := 0 } ∧ c = .pcsReadyChange dt true) →
        (s.grid.state ≠ .reconnectWait ∨ ¬ x.mayClose → exec c s = .next x)
        ∧ (s.grid.state = .reconnectWait → x.mayClose → s.grid.brkAux = false → exec c s = .next ((x.setGrid
            { x.grid with state := .closing, closePulse := some 0, closeTimer := some 0 }).setAlw
            { s.alw with limits := ⟨0, 0⟩, duties := ⟨0, 0⟩ })))
    ∧ (s.grid.pcsReady = true → 5000 ≤ s.grid.pcsReadyAge + dt →
        exec (.pcsReadyChange dt false) s = .next (e.setGrid { e.grid with pcsReady := false, pcsReadyAge := 0 }))

/-- BRK_AUX by breaker state (R176, R177, R179, R181, R182): a closure confirms CLOSING, with the limits computed at that instant (R112), n
counting all 32 bits of CLOSED (the model's choice, log 31), and is an AUX_MISMATCH elsewhere; an opening completes a trip, or is one in
CLOSED. A level that has not stood 5 ms since the filtered one was taken changes nothing (R169; log 5: the model's choice of how a filtered
level comes in). That a completed OPEN_REQUEST trip clears close-requested also where a CLOSE_REQUEST came in TRIPPING is the model's reading
(log 28: the table of R180 and its text differ). -/
def Obligations.BreakerContactDrivesTheBreaker : Prop :=
  ∀ (dt : Nat) (s e c o : State), s.powered = true → s.grid.running = true → e = s.elapse dt →
    (s.grid.brkAuxAge + dt < 5000 → exec (.brkAuxClose dt) s = .next e ∧ exec (.brkAuxOpen dt) s = .next e)
    ∧ (s.grid.brkAux = false → 5000 ≤ s.grid.brkAuxAge + dt → c = e.setGrid { e.grid with brkAux := true, brkAuxAge := 0 } →
      (s.grid.state = .closing → ∃ t, exec (.brkAuxClose dt) s = .next t
        ∧ t.grid = { c.grid with state := .closed, closePulse := none, closeTimer := none }
        ∧ t.limitsSafe ∧ t = (c.setGrid t.grid).setAlw t.alw)
      ∧ (s.grid.state = .brkOpen ∨ s.grid.state = .reconnectWait → exec (.brkAuxClose dt) s = .next ((c.setGrid
          { c.grid with
            state := .tripping, tripTimer := some 0, tripCause := some .auxMismatch, closePulse := none
            closeTimer := none }).setAlw
          { s.alw with limits := ⟨0, 0⟩, duties := ⟨0, 0⟩ }))
      ∧ (s.grid.state = .recloseLockout → s.retained.records.length < 8 → s.link.state ≠ .fault → s.mail.outbound.length < 8 →
          exec (.brkAuxClose dt) s = .next ((c.setRetained
            { s.retained with records := s.retained.records ++ [⟨.auxMismatch, s.retained.uptime, false⟩] }).setMail
            { s.mail with outbound :=
                insertNotice ⟨.data, 31, .tripReport, 5 :: bytes32 s.retained.uptime.toNat, .grid, .waiting⟩ s.mail.outbound }))
      ∧ (s.grid.state = .closed ∨ s.grid.state = .tripping ∨ s.grid.state = .breakerFault →
          exec (.brkAuxClose dt) s = .next c))
    ∧ (s.grid.brkAux = true → 5000 ≤ s.grid.brkAuxAge + dt → o = e.setGrid { e.grid with brkAux := false, brkAuxAge := 0 } →
      0 < s.config.reconnectDelay →
      (∀ cause, s.grid.state = .tripping ∧ s.grid.tripCause = some cause ∨ s.grid.state = .closed ∧ cause = .auxMismatch →
        ∃ t, exec (.brkAuxOpen dt) s = .next t ∧ o.tripCompleted cause t ∧ t.grid.tripTimer = o.grid.tripTimer)
      ∧ (s.grid.state = .brkOpen ∨ s.grid.state = .reconnectWait ∨ s.grid.state = .closing ∨ s.grid.state = .breakerFault
          ∨ s.grid.state = .recloseLockout → exec (.brkAuxOpen dt) s = .next o))

/-- GRID's timers: BRK_CLOSE ends after 200 ms; a close that is not confirmed in 500 ms is BREAKER_FAULT without a record (R176); a trip
timer at 200 ms ends the pulse, and a trip it finds unconfirmed completes with its record in BREAKER_FAULT (R179, R180). That a completed
OPEN_REQUEST trip, confirmed or not, clears close-requested also where a CLOSE_REQUEST came in TRIPPING is the model's reading (log 28). -/
def Obligations.GridTimersExpire : Prop :=
  ∀ (dt n : Nat) (s e : State), s.powered = true → e = s.elapse dt →
    (s.grid.closePulse = some n → 200000 ≤ n + dt →
      exec (.brkClosePulseEnd dt) s = .next (e.setGrid { e.grid with closePulse := none }))
    ∧ (s.grid.running = true → s.grid.state = .closing → s.grid.closeTimer = some n → 500000 ≤ n + dt →
      exec (.gridCloseTimerExpiry dt) s = .next ((e.setGrid
        { e.grid with
          state := .breakerFault, closeRequested := false, closePulse := none, closeTimer := none, tripTimer := none }).setAlw
        { s.alw with limits := ⟨0, 0⟩, duties := ⟨0, 0⟩ }))
    ∧ (s.grid.running = true → s.grid.tripTimer = some n → 200000 ≤ n + dt → s.grid.state ≠ .tripping →
      exec (.tripTimerExpiry dt) s = .next (e.setGrid { e.grid with tripTimer := none }))
    ∧ (∀ cause, s.grid.running = true → s.grid.tripTimer = some n → 200000 ≤ n + dt → s.grid.state = .tripping →
      s.grid.tripCause = some cause →
      (s.grid.brkAux = true → s.retained.records.length < 8 → s.link.state ≠ .fault → s.mail.outbound.length < 8 →
        exec (.tripTimerExpiry dt) s = .next ((((e.setRetained
          { s.retained with records := s.retained.records ++ [⟨cause, s.retained.uptime, false⟩] }).setMail
          { s.mail with outbound := (insertNotice ⟨.data, 31, .tripReport,
              BitVec.ofNat 8 cause.code :: bytes32 s.retained.uptime.toNat, .grid, .waiting⟩ s.mail.outbound) }).setGrid
          { e.grid with
            state := .breakerFault, tripTimer := none, tripCause := none, closePulse := none, closeTimer := none
            closeRequested := s.grid.closeRequested && (cause == .gridLoss || cause == .permitLoss)
            reconnect := if s.grid.gridOk then some 0 else none }).setAlw
          { s.alw with limits := ⟨0, 0⟩, duties := ⟨0, 0⟩ }))
      ∧ (s.grid.brkAux = false → 0 < s.config.reconnectDelay → ∃ t, exec (.tripTimerExpiry dt) s = .next t
          ∧ e.tripCompleted cause t ∧ t.grid.tripTimer = none))

/-! ### Invariants that every step keeps -/

/-- The contactor is on its way to the bus, or on it, only while every close condition of R117 holds, each spelled out in State.mayJoin.
CONT_COIL is driven in CLOSING and CLOSED alone, and then, in a state that keeps the invariant, with both fire stages NORMAL and a valid
configuration, so never in LOCKOUT (R115). -/
def Obligations.StepsKeepTheContactorSafe : Prop :=
  (∀ s t : State, s.contactorSafe → step s = .next t → t.contactorSafe)
  ∧ (∀ s : State, s.coilFollows ∧ (s.contactorSafe → s.outputs.contCoil = true →
      s.fire.localStage = .normal ∧ s.rcv.stage = .normal ∧ s.configValid = true ∧ s.cont.state ≠ .lockout))

/-- The breaker is closing or closed only while the latest frame granted, the container is NORMAL and the grid is there; and BRK_CLOSE, BRK_TRIP
and PCS_EN are at the levels that the table of R174 gives for the breaker state. BRK_TRIP in RECLOSE_LOCKOUT, which that table and R182 give
from BRK_AUX, is active for a running trip pulse too, which is the model's reading (log 20). -/
def Obligations.StepsKeepTheBreakerSafe : Prop :=
  (∀ s t : State, s.breakerSafe → step s = .next t → t.breakerSafe) ∧ ∀ s : State, s.breakerPins

/-- The queues keep their bounds and their order (R51, R54), and every count its range: drive faults (R13), present and absent counts (R36),
temperature fault counts (R70), cell runs and exit counts (R83), and those of R50, R88, R119, R145, R170, R172 and R183. -/
def Obligations.StepsKeepQueuesAndCountsInBounds : Prop :=
  ∀ s t : State, s.queuesSafe → s.countsSafe → step s = .next t → t.queuesSafe ∧ t.countsSafe

/-- No bleed driver is on in a scan, at a stage other than NORMAL or with balancing off, and never more are on than the configured maximum
bleed count, nor more than 8 (R93). The sixteen driver pins are these. -/
def Obligations.StepsKeepTheBleedDriversSafe : Prop :=
  (∀ s t : State, s.bleedSafe → step s = .next t → t.bleedSafe) ∧ ∀ s : State, s.outputs.bleed = s.cell.bleed

/-- The published pair is capped by both fire stages and by WELDED at every instant (R107, R108). -/
def Obligations.StepsKeepTheAllowanceCapped : Prop :=
  ∀ s t : State, s.allowanceSafe → step s = .next t → t.allowanceSafe

/-- The container limits and their duties are current at every instant (R110, R112, R113). That the n of R110 counts every address read in
CLOSED, 31 too, is the model's choice (log 31). The breaker invariant is a premise: it says that GRID runs only once the configuration is
read, so that CONFIG_READ_COMPLETE finds no closed breaker whose role or settings it changes; StepsKeepTheBreakerSafe keeps it. The two PWM
pins give the duties. -/
def Obligations.StepsKeepTheLimitsCurrent : Prop :=
  (∀ s t : State, s.breakerSafe → s.limitsSafe → step s = .next t → t.limitsSafe)
  ∧ ∀ s : State, s.outputs.limitChg = s.alw.duties.chg ∧ s.outputs.limitDis = s.alw.duties.dis

/-- The plant runs no more stages than configured, and none at ALARM or higher (R143). CHST k is active while stage k runs (R140), and FADAMP
as PLANT has set it (R144). -/
def Obligations.StepsKeepThePlantSafe : Prop :=
  (∀ s t : State, s.plantSafe → step s = .next t → t.plantSafe)
  ∧ ∀ s : State, s.outputs.chst = s.plant.stages.map (·.running) ∧ s.outputs.fadamp = s.plant.fadamp

/-- What only a reset ends: the released latch only a power-on reset or the loss of supply, the lockout flag and link FAULT any reset; the
local ALARM also an ALARM_RESET; and REL_OUT is given once, by the countdown that sets the latch. -/
def Obligations.LatchesStandUntilTheirReset : Prop :=
  ∀ (c : Instr) (s t : State), exec c s = .next t → (∀ pins, c ≠ .powerOnReset pins) → c ≠ .supplyLoss →
    (s.retained.releasedLatch = true → t.retained.releasedLatch = true)
    ∧ ((∀ pins, c ≠ .pinReset pins) →
        (s.cont.lockout = true → t.cont.lockout = true)
        ∧ (s.link.state = .fault → t.link.state = .fault ∧ t.link.faultReason = s.link.faultReason)
        ∧ ((∀ dt, c ≠ .alarmReset dt) → s.fire.localStage = .alarm → t.fire.localStage = .alarm)
        ∧ (s.supp.relPulse = none → t.supp.relPulse ≠ none →
            s.retained.releasedLatch = false ∧ t.retained.releasedLatch = true ∧ ∃ dt, c = .countdownExpiry dt))
end

