-- ==== Sys2Proof/Laws/State.lean ====
section
/-! SUPPORT. One lemma per block and setter: what a setter writes, and what it leaves. They are the simp set with which later proofs
read a field of an updated state, so that no proof unfolds a record update. -/

namespace Sys2Proof.Machine

/-! #### setCfg -/
@[simp] theorem State.setCfg_powered (s : State) (x : Cfg) : (s.setCfg x).powered = s.powered := rfl
@[simp] theorem State.setCfg_cfg (s : State) (x : Cfg) : (s.setCfg x).cfg = x := rfl
@[simp] theorem State.setCfg_indicator (s : State) (x : Cfg) : (s.setCfg x).indicator = s.indicator := rfl
@[simp] theorem State.setCfg_link (s : State) (x : Cfg) : (s.setCfg x).link = s.link := rfl
@[simp] theorem State.setCfg_rcv (s : State) (x : Cfg) : (s.setCfg x).rcv = s.rcv := rfl
@[simp] theorem State.setCfg_monitor (s : State) (x : Cfg) : (s.setCfg x).monitor = s.monitor := rfl
@[simp] theorem State.setCfg_mail (s : State) (x : Cfg) : (s.setCfg x).mail = s.mail := rfl
@[simp] theorem State.setCfg_meas (s : State) (x : Cfg) : (s.setCfg x).meas = s.meas := rfl
@[simp] theorem State.setCfg_cell (s : State) (x : Cfg) : (s.setCfg x).cell = s.cell := rfl
@[simp] theorem State.setCfg_alw (s : State) (x : Cfg) : (s.setCfg x).alw = s.alw := rfl
@[simp] theorem State.setCfg_cont (s : State) (x : Cfg) : (s.setCfg x).cont = s.cont := rfl
@[simp] theorem State.setCfg_therm (s : State) (x : Cfg) : (s.setCfg x).therm = s.therm := rfl
@[simp] theorem State.setCfg_plant (s : State) (x : Cfg) : (s.setCfg x).plant = s.plant := rfl
@[simp] theorem State.setCfg_fire (s : State) (x : Cfg) : (s.setCfg x).fire = s.fire := rfl
@[simp] theorem State.setCfg_supp (s : State) (x : Cfg) : (s.setCfg x).supp = s.supp := rfl
@[simp] theorem State.setCfg_grid (s : State) (x : Cfg) : (s.setCfg x).grid = s.grid := rfl
@[simp] theorem State.setCfg_retained (s : State) (x : Cfg) : (s.setCfg x).retained = s.retained := rfl
@[simp] theorem State.setCfg_pending (s : State) (x : Cfg) : (s.setCfg x).pending = s.pending := rfl

/-! #### setIndicator -/
@[simp] theorem State.setIndicator_powered (s : State) (x : Indicator) : (s.setIndicator x).powered = s.powered := rfl
@[simp] theorem State.setIndicator_cfg (s : State) (x : Indicator) : (s.setIndicator x).cfg = s.cfg := rfl
@[simp] theorem State.setIndicator_indicator (s : State) (x : Indicator) : (s.setIndicator x).indicator = x := rfl
@[simp] theorem State.setIndicator_link (s : State) (x : Indicator) : (s.setIndicator x).link = s.link := rfl
@[simp] theorem State.setIndicator_rcv (s : State) (x : Indicator) : (s.setIndicator x).rcv = s.rcv := rfl
@[simp] theorem State.setIndicator_monitor (s : State) (x : Indicator) : (s.setIndicator x).monitor = s.monitor := rfl
@[simp] theorem State.setIndicator_mail (s : State) (x : Indicator) : (s.setIndicator x).mail = s.mail := rfl
@[simp] theorem State.setIndicator_meas (s : State) (x : Indicator) : (s.setIndicator x).meas = s.meas := rfl
@[simp] theorem State.setIndicator_cell (s : State) (x : Indicator) : (s.setIndicator x).cell = s.cell := rfl
@[simp] theorem State.setIndicator_alw (s : State) (x : Indicator) : (s.setIndicator x).alw = s.alw := rfl
@[simp] theorem State.setIndicator_cont (s : State) (x : Indicator) : (s.setIndicator x).cont = s.cont := rfl
@[simp] theorem State.setIndicator_therm (s : State) (x : Indicator) : (s.setIndicator x).therm = s.therm := rfl
@[simp] theorem State.setIndicator_plant (s : State) (x : Indicator) : (s.setIndicator x).plant = s.plant := rfl
@[simp] theorem State.setIndicator_fire (s : State) (x : Indicator) : (s.setIndicator x).fire = s.fire := rfl
@[simp] theorem State.setIndicator_supp (s : State) (x : Indicator) : (s.setIndicator x).supp = s.supp := rfl
@[simp] theorem State.setIndicator_grid (s : State) (x : Indicator) : (s.setIndicator x).grid = s.grid := rfl
@[simp] theorem State.setIndicator_retained (s : State) (x : Indicator) : (s.setIndicator x).retained = s.retained := rfl
@[simp] theorem State.setIndicator_pending (s : State) (x : Indicator) : (s.setIndicator x).pending = s.pending := rfl

/-! #### setLink -/
@[simp] theorem State.setLink_powered (s : State) (x : Link) : (s.setLink x).powered = s.powered := rfl
@[simp] theorem State.setLink_cfg (s : State) (x : Link) : (s.setLink x).cfg = s.cfg := rfl
@[simp] theorem State.setLink_indicator (s : State) (x : Link) : (s.setLink x).indicator = s.indicator := rfl
@[simp] theorem State.setLink_link (s : State) (x : Link) : (s.setLink x).link = x := rfl
@[simp] theorem State.setLink_rcv (s : State) (x : Link) : (s.setLink x).rcv = s.rcv := rfl
@[simp] theorem State.setLink_monitor (s : State) (x : Link) : (s.setLink x).monitor = s.monitor := rfl
@[simp] theorem State.setLink_mail (s : State) (x : Link) : (s.setLink x).mail = s.mail := rfl
@[simp] theorem State.setLink_meas (s : State) (x : Link) : (s.setLink x).meas = s.meas := rfl
@[simp] theorem State.setLink_cell (s : State) (x : Link) : (s.setLink x).cell = s.cell := rfl
@[simp] theorem State.setLink_alw (s : State) (x : Link) : (s.setLink x).alw = s.alw := rfl
@[simp] theorem State.setLink_cont (s : State) (x : Link) : (s.setLink x).cont = s.cont := rfl
@[simp] theorem State.setLink_therm (s : State) (x : Link) : (s.setLink x).therm = s.therm := rfl
@[simp] theorem State.setLink_plant (s : State) (x : Link) : (s.setLink x).plant = s.plant := rfl
@[simp] theorem State.setLink_fire (s : State) (x : Link) : (s.setLink x).fire = s.fire := rfl
@[simp] theorem State.setLink_supp (s : State) (x : Link) : (s.setLink x).supp = s.supp := rfl
@[simp] theorem State.setLink_grid (s : State) (x : Link) : (s.setLink x).grid = s.grid := rfl
@[simp] theorem State.setLink_retained (s : State) (x : Link) : (s.setLink x).retained = s.retained := rfl
@[simp] theorem State.setLink_pending (s : State) (x : Link) : (s.setLink x).pending = s.pending := rfl

/-! #### setRcv -/
@[simp] theorem State.setRcv_powered (s : State) (x : Rcv) : (s.setRcv x).powered = s.powered := rfl
@[simp] theorem State.setRcv_cfg (s : State) (x : Rcv) : (s.setRcv x).cfg = s.cfg := rfl
@[simp] theorem State.setRcv_indicator (s : State) (x : Rcv) : (s.setRcv x).indicator = s.indicator := rfl
@[simp] theorem State.setRcv_link (s : State) (x : Rcv) : (s.setRcv x).link = s.link := rfl
@[simp] theorem State.setRcv_rcv (s : State) (x : Rcv) : (s.setRcv x).rcv = x := rfl
@[simp] theorem State.setRcv_monitor (s : State) (x : Rcv) : (s.setRcv x).monitor = s.monitor := rfl
@[simp] theorem State.setRcv_mail (s : State) (x : Rcv) : (s.setRcv x).mail = s.mail := rfl
@[simp] theorem State.setRcv_meas (s : State) (x : Rcv) : (s.setRcv x).meas = s.meas := rfl
@[simp] theorem State.setRcv_cell (s : State) (x : Rcv) : (s.setRcv x).cell = s.cell := rfl
@[simp] theorem State.setRcv_alw (s : State) (x : Rcv) : (s.setRcv x).alw = s.alw := rfl
@[simp] theorem State.setRcv_cont (s : State) (x : Rcv) : (s.setRcv x).cont = s.cont := rfl
@[simp] theorem State.setRcv_therm (s : State) (x : Rcv) : (s.setRcv x).therm = s.therm := rfl
@[simp] theorem State.setRcv_plant (s : State) (x : Rcv) : (s.setRcv x).plant = s.plant := rfl
@[simp] theorem State.setRcv_fire (s : State) (x : Rcv) : (s.setRcv x).fire = s.fire := rfl
@[simp] theorem State.setRcv_supp (s : State) (x : Rcv) : (s.setRcv x).supp = s.supp := rfl
@[simp] theorem State.setRcv_grid (s : State) (x : Rcv) : (s.setRcv x).grid = s.grid := rfl
@[simp] theorem State.setRcv_retained (s : State) (x : Rcv) : (s.setRcv x).retained = s.retained := rfl
@[simp] theorem State.setRcv_pending (s : State) (x : Rcv) : (s.setRcv x).pending = s.pending := rfl

/-! #### setMonitor -/
@[simp] theorem State.setMonitor_powered (s : State) (x : Monitor) : (s.setMonitor x).powered = s.powered := rfl
@[simp] theorem State.setMonitor_cfg (s : State) (x : Monitor) : (s.setMonitor x).cfg = s.cfg := rfl
@[simp] theorem State.setMonitor_indicator (s : State) (x : Monitor) : (s.setMonitor x).indicator = s.indicator := rfl
@[simp] theorem State.setMonitor_link (s : State) (x : Monitor) : (s.setMonitor x).link = s.link := rfl
@[simp] theorem State.setMonitor_rcv (s : State) (x : Monitor) : (s.setMonitor x).rcv = s.rcv := rfl
@[simp] theorem State.setMonitor_monitor (s : State) (x : Monitor) : (s.setMonitor x).monitor = x := rfl
@[simp] theorem State.setMonitor_mail (s : State) (x : Monitor) : (s.setMonitor x).mail = s.mail := rfl
@[simp] theorem State.setMonitor_meas (s : State) (x : Monitor) : (s.setMonitor x).meas = s.meas := rfl
@[simp] theorem State.setMonitor_cell (s : State) (x : Monitor) : (s.setMonitor x).cell = s.cell := rfl
@[simp] theorem State.setMonitor_alw (s : State) (x : Monitor) : (s.setMonitor x).alw = s.alw := rfl
@[simp] theorem State.setMonitor_cont (s : State) (x : Monitor) : (s.setMonitor x).cont = s.cont := rfl
@[simp] theorem State.setMonitor_therm (s : State) (x : Monitor) : (s.setMonitor x).therm = s.therm := rfl
@[simp] theorem State.setMonitor_plant (s : State) (x : Monitor) : (s.setMonitor x).plant = s.plant := rfl
@[simp] theorem State.setMonitor_fire (s : State) (x : Monitor) : (s.setMonitor x).fire = s.fire := rfl
@[simp] theorem State.setMonitor_supp (s : State) (x : Monitor) : (s.setMonitor x).supp = s.supp := rfl
@[simp] theorem State.setMonitor_grid (s : State) (x : Monitor) : (s.setMonitor x).grid = s.grid := rfl
@[simp] theorem State.setMonitor_retained (s : State) (x : Monitor) : (s.setMonitor x).retained = s.retained := rfl
@[simp] theorem State.setMonitor_pending (s : State) (x : Monitor) : (s.setMonitor x).pending = s.pending := rfl

/-! #### setMail -/
@[simp] theorem State.setMail_powered (s : State) (x : Mail) : (s.setMail x).powered = s.powered := rfl
@[simp] theorem State.setMail_cfg (s : State) (x : Mail) : (s.setMail x).cfg = s.cfg := rfl
@[simp] theorem State.setMail_indicator (s : State) (x : Mail) : (s.setMail x).indicator = s.indicator := rfl
@[simp] theorem State.setMail_link (s : State) (x : Mail) : (s.setMail x).link = s.link := rfl
@[simp] theorem State.setMail_rcv (s : State) (x : Mail) : (s.setMail x).rcv = s.rcv := rfl
@[simp] theorem State.setMail_monitor (s : State) (x : Mail) : (s.setMail x).monitor = s.monitor := rfl
@[simp] theorem State.setMail_mail (s : State) (x : Mail) : (s.setMail x).mail = x := rfl
@[simp] theorem State.setMail_meas (s : State) (x : Mail) : (s.setMail x).meas = s.meas := rfl
@[simp] theorem State.setMail_cell (s : State) (x : Mail) : (s.setMail x).cell = s.cell := rfl
@[simp] theorem State.setMail_alw (s : State) (x : Mail) : (s.setMail x).alw = s.alw := rfl
@[simp] theorem State.setMail_cont (s : State) (x : Mail) : (s.setMail x).cont = s.cont := rfl
@[simp] theorem State.setMail_therm (s : State) (x : Mail) : (s.setMail x).therm = s.therm := rfl
@[simp] theorem State.setMail_plant (s : State) (x : Mail) : (s.setMail x).plant = s.plant := rfl
@[simp] theorem State.setMail_fire (s : State) (x : Mail) : (s.setMail x).fire = s.fire := rfl
@[simp] theorem State.setMail_supp (s : State) (x : Mail) : (s.setMail x).supp = s.supp := rfl
@[simp] theorem State.setMail_grid (s : State) (x : Mail) : (s.setMail x).grid = s.grid := rfl
@[simp] theorem State.setMail_retained (s : State) (x : Mail) : (s.setMail x).retained = s.retained := rfl
@[simp] theorem State.setMail_pending (s : State) (x : Mail) : (s.setMail x).pending = s.pending := rfl

/-! #### setMeas -/
@[simp] theorem State.setMeas_powered (s : State) (x : Meas) : (s.setMeas x).powered = s.powered := rfl
@[simp] theorem State.setMeas_cfg (s : State) (x : Meas) : (s.setMeas x).cfg = s.cfg := rfl
@[simp] theorem State.setMeas_indicator (s : State) (x : Meas) : (s.setMeas x).indicator = s.indicator := rfl
@[simp] theorem State.setMeas_link (s : State) (x : Meas) : (s.setMeas x).link = s.link := rfl
@[simp] theorem State.setMeas_rcv (s : State) (x : Meas) : (s.setMeas x).rcv = s.rcv := rfl
@[simp] theorem State.setMeas_monitor (s : State) (x : Meas) : (s.setMeas x).monitor = s.monitor := rfl
@[simp] theorem State.setMeas_mail (s : State) (x : Meas) : (s.setMeas x).mail = s.mail := rfl
@[simp] theorem State.setMeas_meas (s : State) (x : Meas) : (s.setMeas x).meas = x := rfl
@[simp] theorem State.setMeas_cell (s : State) (x : Meas) : (s.setMeas x).cell = s.cell := rfl
@[simp] theorem State.setMeas_alw (s : State) (x : Meas) : (s.setMeas x).alw = s.alw := rfl
@[simp] theorem State.setMeas_cont (s : State) (x : Meas) : (s.setMeas x).cont = s.cont := rfl
@[simp] theorem State.setMeas_therm (s : State) (x : Meas) : (s.setMeas x).therm = s.therm := rfl
@[simp] theorem State.setMeas_plant (s : State) (x : Meas) : (s.setMeas x).plant = s.plant := rfl
@[simp] theorem State.setMeas_fire (s : State) (x : Meas) : (s.setMeas x).fire = s.fire := rfl
@[simp] theorem State.setMeas_supp (s : State) (x : Meas) : (s.setMeas x).supp = s.supp := rfl
@[simp] theorem State.setMeas_grid (s : State) (x : Meas) : (s.setMeas x).grid = s.grid := rfl
@[simp] theorem State.setMeas_retained (s : State) (x : Meas) : (s.setMeas x).retained = s.retained := rfl
@[simp] theorem State.setMeas_pending (s : State) (x : Meas) : (s.setMeas x).pending = s.pending := rfl

/-! #### setCell -/
@[simp] theorem State.setCell_powered (s : State) (x : Cell) : (s.setCell x).powered = s.powered := rfl
@[simp] theorem State.setCell_cfg (s : State) (x : Cell) : (s.setCell x).cfg = s.cfg := rfl
@[simp] theorem State.setCell_indicator (s : State) (x : Cell) : (s.setCell x).indicator = s.indicator := rfl
@[simp] theorem State.setCell_link (s : State) (x : Cell) : (s.setCell x).link = s.link := rfl
@[simp] theorem State.setCell_rcv (s : State) (x : Cell) : (s.setCell x).rcv = s.rcv := rfl
@[simp] theorem State.setCell_monitor (s : State) (x : Cell) : (s.setCell x).monitor = s.monitor := rfl
@[simp] theorem State.setCell_mail (s : State) (x : Cell) : (s.setCell x).mail = s.mail := rfl
@[simp] theorem State.setCell_meas (s : State) (x : Cell) : (s.setCell x).meas = s.meas := rfl
@[simp] theorem State.setCell_cell (s : State) (x : Cell) : (s.setCell x).cell = x := rfl
@[simp] theorem State.setCell_alw (s : State) (x : Cell) : (s.setCell x).alw = s.alw := rfl
@[simp] theorem State.setCell_cont (s : State) (x : Cell) : (s.setCell x).cont = s.cont := rfl
@[simp] theorem State.setCell_therm (s : State) (x : Cell) : (s.setCell x).therm = s.therm := rfl
@[simp] theorem State.setCell_plant (s : State) (x : Cell) : (s.setCell x).plant = s.plant := rfl
@[simp] theorem State.setCell_fire (s : State) (x : Cell) : (s.setCell x).fire = s.fire := rfl
@[simp] theorem State.setCell_supp (s : State) (x : Cell) : (s.setCell x).supp = s.supp := rfl
@[simp] theorem State.setCell_grid (s : State) (x : Cell) : (s.setCell x).grid = s.grid := rfl
@[simp] theorem State.setCell_retained (s : State) (x : Cell) : (s.setCell x).retained = s.retained := rfl
@[simp] theorem State.setCell_pending (s : State) (x : Cell) : (s.setCell x).pending = s.pending := rfl

/-! #### setAlw -/
@[simp] theorem State.setAlw_powered (s : State) (x : Alw) : (s.setAlw x).powered = s.powered := rfl
@[simp] theorem State.setAlw_cfg (s : State) (x : Alw) : (s.setAlw x).cfg = s.cfg := rfl
@[simp] theorem State.setAlw_indicator (s : State) (x : Alw) : (s.setAlw x).indicator = s.indicator := rfl
@[simp] theorem State.setAlw_link (s : State) (x : Alw) : (s.setAlw x).link = s.link := rfl
@[simp] theorem State.setAlw_rcv (s : State) (x : Alw) : (s.setAlw x).rcv = s.rcv := rfl
@[simp] theorem State.setAlw_monitor (s : State) (x : Alw) : (s.setAlw x).monitor = s.monitor := rfl
@[simp] theorem State.setAlw_mail (s : State) (x : Alw) : (s.setAlw x).mail = s.mail := rfl
@[simp] theorem State.setAlw_meas (s : State) (x : Alw) : (s.setAlw x).meas = s.meas := rfl
@[simp] theorem State.setAlw_cell (s : State) (x : Alw) : (s.setAlw x).cell = s.cell := rfl
@[simp] theorem State.setAlw_alw (s : State) (x : Alw) : (s.setAlw x).alw = x := rfl
@[simp] theorem State.setAlw_cont (s : State) (x : Alw) : (s.setAlw x).cont = s.cont := rfl
@[simp] theorem State.setAlw_therm (s : State) (x : Alw) : (s.setAlw x).therm = s.therm := rfl
@[simp] theorem State.setAlw_plant (s : State) (x : Alw) : (s.setAlw x).plant = s.plant := rfl
@[simp] theorem State.setAlw_fire (s : State) (x : Alw) : (s.setAlw x).fire = s.fire := rfl
@[simp] theorem State.setAlw_supp (s : State) (x : Alw) : (s.setAlw x).supp = s.supp := rfl
@[simp] theorem State.setAlw_grid (s : State) (x : Alw) : (s.setAlw x).grid = s.grid := rfl
@[simp] theorem State.setAlw_retained (s : State) (x : Alw) : (s.setAlw x).retained = s.retained := rfl
@[simp] theorem State.setAlw_pending (s : State) (x : Alw) : (s.setAlw x).pending = s.pending := rfl

/-! #### setCont -/
@[simp] theorem State.setCont_powered (s : State) (x : Cont) : (s.setCont x).powered = s.powered := rfl
@[simp] theorem State.setCont_cfg (s : State) (x : Cont) : (s.setCont x).cfg = s.cfg := rfl
@[simp] theorem State.setCont_indicator (s : State) (x : Cont) : (s.setCont x).indicator = s.indicator := rfl
@[simp] theorem State.setCont_link (s : State) (x : Cont) : (s.setCont x).link = s.link := rfl
@[simp] theorem State.setCont_rcv (s : State) (x : Cont) : (s.setCont x).rcv = s.rcv := rfl
@[simp] theorem State.setCont_monitor (s : State) (x : Cont) : (s.setCont x).monitor = s.monitor := rfl
@[simp] theorem State.setCont_mail (s : State) (x : Cont) : (s.setCont x).mail = s.mail := rfl
@[simp] theorem State.setCont_meas (s : State) (x : Cont) : (s.setCont x).meas = s.meas := rfl
@[simp] theorem State.setCont_cell (s : State) (x : Cont) : (s.setCont x).cell = s.cell := rfl
@[simp] theorem State.setCont_alw (s : State) (x : Cont) : (s.setCont x).alw = s.alw := rfl
@[simp] theorem State.setCont_cont (s : State) (x : Cont) : (s.setCont x).cont = x := rfl
@[simp] theorem State.setCont_therm (s : State) (x : Cont) : (s.setCont x).therm = s.therm := rfl
@[simp] theorem State.setCont_plant (s : State) (x : Cont) : (s.setCont x).plant = s.plant := rfl
@[simp] theorem State.setCont_fire (s : State) (x : Cont) : (s.setCont x).fire = s.fire := rfl
@[simp] theorem State.setCont_supp (s : State) (x : Cont) : (s.setCont x).supp = s.supp := rfl
@[simp] theorem State.setCont_grid (s : State) (x : Cont) : (s.setCont x).grid = s.grid := rfl
@[simp] theorem State.setCont_retained (s : State) (x : Cont) : (s.setCont x).retained = s.retained := rfl
@[simp] theorem State.setCont_pending (s : State) (x : Cont) : (s.setCont x).pending = s.pending := rfl

/-! #### setTherm -/
@[simp] theorem State.setTherm_powered (s : State) (x : Therm) : (s.setTherm x).powered = s.powered := rfl
@[simp] theorem State.setTherm_cfg (s : State) (x : Therm) : (s.setTherm x).cfg = s.cfg := rfl
@[simp] theorem State.setTherm_indicator (s : State) (x : Therm) : (s.setTherm x).indicator = s.indicator := rfl
@[simp] theorem State.setTherm_link (s : State) (x : Therm) : (s.setTherm x).link = s.link := rfl
@[simp] theorem State.setTherm_rcv (s : State) (x : Therm) : (s.setTherm x).rcv = s.rcv := rfl
@[simp] theorem State.setTherm_monitor (s : State) (x : Therm) : (s.setTherm x).monitor = s.monitor := rfl
@[simp] theorem State.setTherm_mail (s : State) (x : Therm) : (s.setTherm x).mail = s.mail := rfl
@[simp] theorem State.setTherm_meas (s : State) (x : Therm) : (s.setTherm x).meas = s.meas := rfl
@[simp] theorem State.setTherm_cell (s : State) (x : Therm) : (s.setTherm x).cell = s.cell := rfl
@[simp] theorem State.setTherm_alw (s : State) (x : Therm) : (s.setTherm x).alw = s.alw := rfl
@[simp] theorem State.setTherm_cont (s : State) (x : Therm) : (s.setTherm x).cont = s.cont := rfl
@[simp] theorem State.setTherm_therm (s : State) (x : Therm) : (s.setTherm x).therm = x := rfl
@[simp] theorem State.setTherm_plant (s : State) (x : Therm) : (s.setTherm x).plant = s.plant := rfl
@[simp] theorem State.setTherm_fire (s : State) (x : Therm) : (s.setTherm x).fire = s.fire := rfl
@[simp] theorem State.setTherm_supp (s : State) (x : Therm) : (s.setTherm x).supp = s.supp := rfl
@[simp] theorem State.setTherm_grid (s : State) (x : Therm) : (s.setTherm x).grid = s.grid := rfl
@[simp] theorem State.setTherm_retained (s : State) (x : Therm) : (s.setTherm x).retained = s.retained := rfl
@[simp] theorem State.setTherm_pending (s : State) (x : Therm) : (s.setTherm x).pending = s.pending := rfl

/-! #### setPlant -/
@[simp] theorem State.setPlant_powered (s : State) (x : Plant) : (s.setPlant x).powered = s.powered := rfl
@[simp] theorem State.setPlant_cfg (s : State) (x : Plant) : (s.setPlant x).cfg = s.cfg := rfl
@[simp] theorem State.setPlant_indicator (s : State) (x : Plant) : (s.setPlant x).indicator = s.indicator := rfl
@[simp] theorem State.setPlant_link (s : State) (x : Plant) : (s.setPlant x).link = s.link := rfl
@[simp] theorem State.setPlant_rcv (s : State) (x : Plant) : (s.setPlant x).rcv = s.rcv := rfl
@[simp] theorem State.setPlant_monitor (s : State) (x : Plant) : (s.setPlant x).monitor = s.monitor := rfl
@[simp] theorem State.setPlant_mail (s : State) (x : Plant) : (s.setPlant x).mail = s.mail := rfl
@[simp] theorem State.setPlant_meas (s : State) (x : Plant) : (s.setPlant x).meas = s.meas := rfl
@[simp] theorem State.setPlant_cell (s : State) (x : Plant) : (s.setPlant x).cell = s.cell := rfl
@[simp] theorem State.setPlant_alw (s : State) (x : Plant) : (s.setPlant x).alw = s.alw := rfl
@[simp] theorem State.setPlant_cont (s : State) (x : Plant) : (s.setPlant x).cont = s.cont := rfl
@[simp] theorem State.setPlant_therm (s : State) (x : Plant) : (s.setPlant x).therm = s.therm := rfl
@[simp] theorem State.setPlant_plant (s : State) (x : Plant) : (s.setPlant x).plant = x := rfl
@[simp] theorem State.setPlant_fire (s : State) (x : Plant) : (s.setPlant x).fire = s.fire := rfl
@[simp] theorem State.setPlant_supp (s : State) (x : Plant) : (s.setPlant x).supp = s.supp := rfl
@[simp] theorem State.setPlant_grid (s : State) (x : Plant) : (s.setPlant x).grid = s.grid := rfl
@[simp] theorem State.setPlant_retained (s : State) (x : Plant) : (s.setPlant x).retained = s.retained := rfl
@[simp] theorem State.setPlant_pending (s : State) (x : Plant) : (s.setPlant x).pending = s.pending := rfl

/-! #### setFire -/
@[simp] theorem State.setFire_powered (s : State) (x : Fire) : (s.setFire x).powered = s.powered := rfl
@[simp] theorem State.setFire_cfg (s : State) (x : Fire) : (s.setFire x).cfg = s.cfg := rfl
@[simp] theorem State.setFire_indicator (s : State) (x : Fire) : (s.setFire x).indicator = s.indicator := rfl
@[simp] theorem State.setFire_link (s : State) (x : Fire) : (s.setFire x).link = s.link := rfl
@[simp] theorem State.setFire_rcv (s : State) (x : Fire) : (s.setFire x).rcv = s.rcv := rfl
@[simp] theorem State.setFire_monitor (s : State) (x : Fire) : (s.setFire x).monitor = s.monitor := rfl
@[simp] theorem State.setFire_mail (s : State) (x : Fire) : (s.setFire x).mail = s.mail := rfl
@[simp] theorem State.setFire_meas (s : State) (x : Fire) : (s.setFire x).meas = s.meas := rfl
@[simp] theorem State.setFire_cell (s : State) (x : Fire) : (s.setFire x).cell = s.cell := rfl
@[simp] theorem State.setFire_alw (s : State) (x : Fire) : (s.setFire x).alw = s.alw := rfl
@[simp] theorem State.setFire_cont (s : State) (x : Fire) : (s.setFire x).cont = s.cont := rfl
@[simp] theorem State.setFire_therm (s : State) (x : Fire) : (s.setFire x).therm = s.therm := rfl
@[simp] theorem State.setFire_plant (s : State) (x : Fire) : (s.setFire x).plant = s.plant := rfl
@[simp] theorem State.setFire_fire (s : State) (x : Fire) : (s.setFire x).fire = x := rfl
@[simp] theorem State.setFire_supp (s : State) (x : Fire) : (s.setFire x).supp = s.supp := rfl
@[simp] theorem State.setFire_grid (s : State) (x : Fire) : (s.setFire x).grid = s.grid := rfl
@[simp] theorem State.setFire_retained (s : State) (x : Fire) : (s.setFire x).retained = s.retained := rfl
@[simp] theorem State.setFire_pending (s : State) (x : Fire) : (s.setFire x).pending = s.pending := rfl

/-! #### setSupp -/
@[simp] theorem State.setSupp_powered (s : State) (x : Supp) : (s.setSupp x).powered = s.powered := rfl
@[simp] theorem State.setSupp_cfg (s : State) (x : Supp) : (s.setSupp x).cfg = s.cfg := rfl
@[simp] theorem State.setSupp_indicator (s : State) (x : Supp) : (s.setSupp x).indicator = s.indicator := rfl
@[simp] theorem State.setSupp_link (s : State) (x : Supp) : (s.setSupp x).link = s.link := rfl
@[simp] theorem State.setSupp_rcv (s : State) (x : Supp) : (s.setSupp x).rcv = s.rcv := rfl
@[simp] theorem State.setSupp_monitor (s : State) (x : Supp) : (s.setSupp x).monitor = s.monitor := rfl
@[simp] theorem State.setSupp_mail (s : State) (x : Supp) : (s.setSupp x).mail = s.mail := rfl
@[simp] theorem State.setSupp_meas (s : State) (x : Supp) : (s.setSupp x).meas = s.meas := rfl
@[simp] theorem State.setSupp_cell (s : State) (x : Supp) : (s.setSupp x).cell = s.cell := rfl
@[simp] theorem State.setSupp_alw (s : State) (x : Supp) : (s.setSupp x).alw = s.alw := rfl
@[simp] theorem State.setSupp_cont (s : State) (x : Supp) : (s.setSupp x).cont = s.cont := rfl
@[simp] theorem State.setSupp_therm (s : State) (x : Supp) : (s.setSupp x).therm = s.therm := rfl
@[simp] theorem State.setSupp_plant (s : State) (x : Supp) : (s.setSupp x).plant = s.plant := rfl
@[simp] theorem State.setSupp_fire (s : State) (x : Supp) : (s.setSupp x).fire = s.fire := rfl
@[simp] theorem State.setSupp_supp (s : State) (x : Supp) : (s.setSupp x).supp = x := rfl
@[simp] theorem State.setSupp_grid (s : State) (x : Supp) : (s.setSupp x).grid = s.grid := rfl
@[simp] theorem State.setSupp_retained (s : State) (x : Supp) : (s.setSupp x).retained = s.retained := rfl
@[simp] theorem State.setSupp_pending (s : State) (x : Supp) : (s.setSupp x).pending = s.pending := rfl

/-! #### setGrid -/
@[simp] theorem State.setGrid_powered (s : State) (x : Grid) : (s.setGrid x).powered = s.powered := rfl
@[simp] theorem State.setGrid_cfg (s : State) (x : Grid) : (s.setGrid x).cfg = s.cfg := rfl
@[simp] theorem State.setGrid_indicator (s : State) (x : Grid) : (s.setGrid x).indicator = s.indicator := rfl
@[simp] theorem State.setGrid_link (s : State) (x : Grid) : (s.setGrid x).link = s.link := rfl
@[simp] theorem State.setGrid_rcv (s : State) (x : Grid) : (s.setGrid x).rcv = s.rcv := rfl
@[simp] theorem State.setGrid_monitor (s : State) (x : Grid) : (s.setGrid x).monitor = s.monitor := rfl
@[simp] theorem State.setGrid_mail (s : State) (x : Grid) : (s.setGrid x).mail = s.mail := rfl
@[simp] theorem State.setGrid_meas (s : State) (x : Grid) : (s.setGrid x).meas = s.meas := rfl
@[simp] theorem State.setGrid_cell (s : State) (x : Grid) : (s.setGrid x).cell = s.cell := rfl
@[simp] theorem State.setGrid_alw (s : State) (x : Grid) : (s.setGrid x).alw = s.alw := rfl
@[simp] theorem State.setGrid_cont (s : State) (x : Grid) : (s.setGrid x).cont = s.cont := rfl
@[simp] theorem State.setGrid_therm (s : State) (x : Grid) : (s.setGrid x).therm = s.therm := rfl
@[simp] theorem State.setGrid_plant (s : State) (x : Grid) : (s.setGrid x).plant = s.plant := rfl
@[simp] theorem State.setGrid_fire (s : State) (x : Grid) : (s.setGrid x).fire = s.fire := rfl
@[simp] theorem State.setGrid_supp (s : State) (x : Grid) : (s.setGrid x).supp = s.supp := rfl
@[simp] theorem State.setGrid_grid (s : State) (x : Grid) : (s.setGrid x).grid = x := rfl
@[simp] theorem State.setGrid_retained (s : State) (x : Grid) : (s.setGrid x).retained = s.retained := rfl
@[simp] theorem State.setGrid_pending (s : State) (x : Grid) : (s.setGrid x).pending = s.pending := rfl

/-! #### setRetained -/
@[simp] theorem State.setRetained_powered (s : State) (x : Retained) : (s.setRetained x).powered = s.powered := rfl
@[simp] theorem State.setRetained_cfg (s : State) (x : Retained) : (s.setRetained x).cfg = s.cfg := rfl
@[simp] theorem State.setRetained_indicator (s : State) (x : Retained) : (s.setRetained x).indicator = s.indicator := rfl
@[simp] theorem State.setRetained_link (s : State) (x : Retained) : (s.setRetained x).link = s.link := rfl
@[simp] theorem State.setRetained_rcv (s : State) (x : Retained) : (s.setRetained x).rcv = s.rcv := rfl
@[simp] theorem State.setRetained_monitor (s : State) (x : Retained) : (s.setRetained x).monitor = s.monitor := rfl
@[simp] theorem State.setRetained_mail (s : State) (x : Retained) : (s.setRetained x).mail = s.mail := rfl
@[simp] theorem State.setRetained_meas (s : State) (x : Retained) : (s.setRetained x).meas = s.meas := rfl
@[simp] theorem State.setRetained_cell (s : State) (x : Retained) : (s.setRetained x).cell = s.cell := rfl
@[simp] theorem State.setRetained_alw (s : State) (x : Retained) : (s.setRetained x).alw = s.alw := rfl
@[simp] theorem State.setRetained_cont (s : State) (x : Retained) : (s.setRetained x).cont = s.cont := rfl
@[simp] theorem State.setRetained_therm (s : State) (x : Retained) : (s.setRetained x).therm = s.therm := rfl
@[simp] theorem State.setRetained_plant (s : State) (x : Retained) : (s.setRetained x).plant = s.plant := rfl
@[simp] theorem State.setRetained_fire (s : State) (x : Retained) : (s.setRetained x).fire = s.fire := rfl
@[simp] theorem State.setRetained_supp (s : State) (x : Retained) : (s.setRetained x).supp = s.supp := rfl
@[simp] theorem State.setRetained_grid (s : State) (x : Retained) : (s.setRetained x).grid = s.grid := rfl
@[simp] theorem State.setRetained_retained (s : State) (x : Retained) : (s.setRetained x).retained = x := rfl
@[simp] theorem State.setRetained_pending (s : State) (x : Retained) : (s.setRetained x).pending = s.pending := rfl

/-! #### setPending -/
@[simp] theorem State.setPending_powered (s : State) (x : List Instr) : (s.setPending x).powered = s.powered := rfl
@[simp] theorem State.setPending_cfg (s : State) (x : List Instr) : (s.setPending x).cfg = s.cfg := rfl
@[simp] theorem State.setPending_indicator (s : State) (x : List Instr) : (s.setPending x).indicator = s.indicator := rfl
@[simp] theorem State.setPending_link (s : State) (x : List Instr) : (s.setPending x).link = s.link := rfl
@[simp] theorem State.setPending_rcv (s : State) (x : List Instr) : (s.setPending x).rcv = s.rcv := rfl
@[simp] theorem State.setPending_monitor (s : State) (x : List Instr) : (s.setPending x).monitor = s.monitor := rfl
@[simp] theorem State.setPending_mail (s : State) (x : List Instr) : (s.setPending x).mail = s.mail := rfl
@[simp] theorem State.setPending_meas (s : State) (x : List Instr) : (s.setPending x).meas = s.meas := rfl
@[simp] theorem State.setPending_cell (s : State) (x : List Instr) : (s.setPending x).cell = s.cell := rfl
@[simp] theorem State.setPending_alw (s : State) (x : List Instr) : (s.setPending x).alw = s.alw := rfl
@[simp] theorem State.setPending_cont (s : State) (x : List Instr) : (s.setPending x).cont = s.cont := rfl
@[simp] theorem State.setPending_therm (s : State) (x : List Instr) : (s.setPending x).therm = s.therm := rfl
@[simp] theorem State.setPending_plant (s : State) (x : List Instr) : (s.setPending x).plant = s.plant := rfl
@[simp] theorem State.setPending_fire (s : State) (x : List Instr) : (s.setPending x).fire = s.fire := rfl
@[simp] theorem State.setPending_supp (s : State) (x : List Instr) : (s.setPending x).supp = s.supp := rfl
@[simp] theorem State.setPending_grid (s : State) (x : List Instr) : (s.setPending x).grid = s.grid := rfl
@[simp] theorem State.setPending_retained (s : State) (x : List Instr) : (s.setPending x).retained = s.retained := rfl
@[simp] theorem State.setPending_pending (s : State) (x : List Instr) : (s.setPending x).pending = x := rfl

/-! #### A block written twice -/
@[simp] theorem State.setCfg_setCfg (s : State) (x y : Cfg) : (s.setCfg x).setCfg y = s.setCfg y := rfl
@[simp] theorem State.setIndicator_setIndicator (s : State) (x y : Indicator) : (s.setIndicator x).setIndicator y = s.setIndicator y := rfl
@[simp] theorem State.setLink_setLink (s : State) (x y : Link) : (s.setLink x).setLink y = s.setLink y := rfl
@[simp] theorem State.setRcv_setRcv (s : State) (x y : Rcv) : (s.setRcv x).setRcv y = s.setRcv y := rfl
@[simp] theorem State.setMonitor_setMonitor (s : State) (x y : Monitor) : (s.setMonitor x).setMonitor y = s.setMonitor y := rfl
@[simp] theorem State.setMail_setMail (s : State) (x y : Mail) : (s.setMail x).setMail y = s.setMail y := rfl
@[simp] theorem State.setMeas_setMeas (s : State) (x y : Meas) : (s.setMeas x).setMeas y = s.setMeas y := rfl
@[simp] theorem State.setCell_setCell (s : State) (x y : Cell) : (s.setCell x).setCell y = s.setCell y := rfl
@[simp] theorem State.setAlw_setAlw (s : State) (x y : Alw) : (s.setAlw x).setAlw y = s.setAlw y := rfl
@[simp] theorem State.setCont_setCont (s : State) (x y : Cont) : (s.setCont x).setCont y = s.setCont y := rfl
@[simp] theorem State.setTherm_setTherm (s : State) (x y : Therm) : (s.setTherm x).setTherm y = s.setTherm y := rfl
@[simp] theorem State.setPlant_setPlant (s : State) (x y : Plant) : (s.setPlant x).setPlant y = s.setPlant y := rfl
@[simp] theorem State.setFire_setFire (s : State) (x y : Fire) : (s.setFire x).setFire y = s.setFire y := rfl
@[simp] theorem State.setSupp_setSupp (s : State) (x y : Supp) : (s.setSupp x).setSupp y = s.setSupp y := rfl
@[simp] theorem State.setGrid_setGrid (s : State) (x y : Grid) : (s.setGrid x).setGrid y = s.setGrid y := rfl
@[simp] theorem State.setRetained_setRetained (s : State) (x y : Retained) : (s.setRetained x).setRetained y = s.setRetained y := rfl
@[simp] theorem State.setPending_setPending (s : State) (x y : List Instr) : (s.setPending x).setPending y = s.setPending y := rfl

end Sys2Proof.Machine
end

