-- ==== Sys2Proof/Laws/Time.lean ====
section
/-! SUPPORT. What the passing of time does to each field, and the shape of a command (`act`), said once. -/

namespace Sys2Proof.Machine

/-! ### Time -/

@[simp] theorem State.elapse_powered (d : Nat) (s : State) : (s.elapse d).powered = s.powered := rfl
@[simp] theorem State.elapse_cfg (d : Nat) (s : State) : (s.elapse d).cfg = s.cfg := rfl
@[simp] theorem State.elapse_rcv (d : Nat) (s : State) : (s.elapse d).rcv = s.rcv := rfl
@[simp] theorem State.elapse_monitor (d : Nat) (s : State) : (s.elapse d).monitor = s.monitor := rfl
@[simp] theorem State.elapse_mail (d : Nat) (s : State) : (s.elapse d).mail = s.mail := rfl
@[simp] theorem State.elapse_cell (d : Nat) (s : State) : (s.elapse d).cell = s.cell := rfl
@[simp] theorem State.elapse_alw (d : Nat) (s : State) : (s.elapse d).alw = s.alw := rfl
@[simp] theorem State.elapse_therm (d : Nat) (s : State) : (s.elapse d).therm = s.therm := rfl
@[simp] theorem State.elapse_fire (d : Nat) (s : State) : (s.elapse d).fire = s.fire := rfl
@[simp] theorem State.elapse_retained (d : Nat) (s : State) : (s.elapse d).retained = s.retained := rfl
@[simp] theorem State.elapse_pending (d : Nat) (s : State) : (s.elapse d).pending = s.pending := rfl
@[simp] theorem State.elapse_link (d : Nat) (s : State) :
    (s.elapse d).link = { s.link.elapse d with fixed := s.fixedAfter d, slotRoom := s.roomAfter d } := rfl
@[simp] theorem State.elapse_meas (d : Nat) (s : State) : (s.elapse d).meas = s.meas.elapse d := rfl
@[simp] theorem State.elapse_cont (d : Nat) (s : State) : (s.elapse d).cont = s.cont.elapse d := rfl
@[simp] theorem State.elapse_plant (d : Nat) (s : State) : (s.elapse d).plant = s.plant.elapse d := rfl
@[simp] theorem State.elapse_supp (d : Nat) (s : State) : (s.elapse d).supp = s.supp.elapse d := rfl
@[simp] theorem State.elapse_grid (d : Nat) (s : State) : (s.elapse d).grid = s.grid.elapse d := rfl
@[simp] theorem State.elapse_ticks (d : Nat) (s : State) : (s.elapse d).indicator.ticks = s.indicator.ticks := rfl
@[simp] theorem State.elapse_tickTime (d : Nat) (s : State) :
    (s.elapse d).indicator.tickTime = s.indicator.tickTime + d := rfl
@[simp] theorem State.elapse_uptimeDue (d : Nat) (s : State) : (s.elapse d).indicator.uptimeDue = s.indicator.uptimeDue := rfl

@[simp] theorem adv_none (d : Nat) : adv d none = none := rfl
@[simp] theorem adv_some (d n : Nat) : adv d (some n) = some (n + d) := rfl
@[simp] theorem reached_none (n : Nat) : reached n none = false := rfl
@[simp] theorem reached_some (n e : Nat) : reached n (some e) = decide (n ≤ e) := rfl

/-- Outside the field area of a frame no contribution is fixed, and outside the slot no ACK bit begins. -/
theorem State.fixedAfter_eq {d : Nat} {s : State} (h : s.link.state ≠ .active ∨ s.link.phase ≠ .fields) :
    s.fixedAfter d = s.link.fixed := by
  unfold State.fixedAfter
  split
  · rename_i ha hp _; simp [ha, hp] at h
  · rfl
theorem State.roomAfter_eq {d : Nat} {s : State} (h : s.link.state ≠ .active ∨ s.link.phase ≠ .slot) :
    s.roomAfter d = s.link.slotRoom := by
  unfold State.roomAfter
  split
  · rename_i ha hp _; simp [ha, hp] at h
  · rfl

/-- In the field area the entries that have begun are fixed, from the record as it stands. -/
theorem State.fixedAfter_fields {d n : Nat} {s : State} (ha : s.link.state = .active) (hp : s.link.phase = .fields)
    (ht : s.link.frameTime = some n) :
    s.fixedAfter d = s.link.fixed ++ (s.fieldPlan.take (entriesBegun (n + d) syncEnd s.fieldPlan)).drop s.link.fixed.length := by
  simp [State.fixedAfter, ha, hp, ht]

/-- In the slot the ACK bits that have begun are decided, from the inbound queue as it stands. -/
theorem State.roomAfter_slot {d n : Nat} {s : State} (ha : s.link.state = .active) (hp : s.link.phase = .slot)
    (ht : s.link.frameTime = some n) :
    s.roomAfter d = s.link.slotRoom ++
      List.replicate (acksBegun (n + d) - s.link.slotRoom.length) (decide (s.mail.inbound.length < inboundCapacity)) := by
  simp [State.roomAfter, ha, hp, ht]

/-- Time changes neither the settings in use nor a role held nor an in-operation flag. -/
@[simp] theorem State.config_elapse (d : Nat) (s : State) : (s.elapse d).config = s.config := rfl
@[simp] theorem State.own_elapse (d : Nat) (s : State) : (s.elapse d).own = s.own := rfl
@[simp] theorem State.holds_elapse (d : Nat) (s : State) (r : Role) : (s.elapse d).holds r = s.holds r := rfl

/-! ### A block after some time, field by field -/

@[simp] theorem Link.elapse_state (d : Nat) (l : Link) : (l.elapse d).state = l.state := rfl
@[simp] theorem Link.elapse_faultReason (d : Nat) (l : Link) : (l.elapse d).faultReason = l.faultReason := rfl
@[simp] theorem Link.elapse_phase (d : Nat) (l : Link) : (l.elapse d).phase = l.phase := rfl
@[simp] theorem Link.elapse_lsyncLow (d : Nat) (l : Link) : (l.elapse d).lsyncLow = l.lsyncLow := rfl
@[simp] theorem Link.elapse_lsyncDriven (d : Nat) (l : Link) : (l.elapse d).lsyncDriven = l.lsyncDriven := rfl
@[simp] theorem Link.elapse_pulse (d : Nat) (l : Link) : (l.elapse d).pulse = adv d l.pulse := rfl
@[simp] theorem Link.elapse_silence (d : Nat) (l : Link) : (l.elapse d).silence = adv d l.silence := rfl
@[simp] theorem Link.elapse_frameTimer (d : Nat) (l : Link) : (l.elapse d).frameTimer = adv d l.frameTimer := rfl
@[simp] theorem Link.elapse_frameTime (d : Nat) (l : Link) : (l.elapse d).frameTime = adv d l.frameTime := rfl
@[simp] theorem Link.elapse_lowTime (d : Nat) (l : Link) : (l.elapse d).lowTime = adv d l.lowTime := rfl
@[simp] theorem Link.elapse_missTimer (d : Nat) (l : Link) : (l.elapse d).missTimer = adv d l.missTimer := rfl
@[simp] theorem Link.elapse_lineStuck (d : Nat) (l : Link) : (l.elapse d).lineStuck = l.lineStuck := rfl
@[simp] theorem Link.elapse_missTaken (d : Nat) (l : Link) : (l.elapse d).missTaken = l.missTaken := rfl
@[simp] theorem Link.elapse_frameCounter (d : Nat) (l : Link) : (l.elapse d).frameCounter = l.frameCounter := rfl
@[simp] theorem Link.elapse_driveFaults (d : Nat) (l : Link) : (l.elapse d).driveFaults = l.driveFaults := rfl
@[simp] theorem Link.elapse_droveDominant (d : Nat) (l : Link) : (l.elapse d).droveDominant = l.droveDominant := rfl
@[simp] theorem Link.elapse_frameFaulted (d : Nat) (l : Link) : (l.elapse d).frameFaulted = l.frameFaulted := rfl
@[simp] theorem Link.elapse_unechoed (d : Nat) (l : Link) : (l.elapse d).unechoed = l.unechoed := rfl
@[simp] theorem Link.elapse_echoWait (d : Nat) (l : Link) : (l.elapse d).echoWait = l.echoWait := rfl
@[simp] theorem Link.elapse_mutePulse (d : Nat) (l : Link) : (l.elapse d).mutePulse = l.mutePulse := rfl
@[simp] theorem Link.elapse_lateMute (d : Nat) (l : Link) : (l.elapse d).lateMute = l.lateMute := rfl
@[simp] theorem Link.elapse_fixed (d : Nat) (l : Link) : (l.elapse d).fixed = l.fixed := rfl
@[simp] theorem Link.elapse_slotRoom (d : Nat) (l : Link) : (l.elapse d).slotRoom = l.slotRoom := rfl
@[simp] theorem Link.elapse_arb (d : Nat) (l : Link) : (l.elapse d).arb = l.arb := rfl
@[simp] theorem Link.elapse_fields (d : Nat) (l : Link) : (l.elapse d).fields = l.fields := rfl
@[simp] theorem Link.elapse_slotWon (d : Nat) (l : Link) : (l.elapse d).slotWon = l.slotWon := rfl
@[simp] theorem Link.elapse_fieldDrive (d : Nat) (l : Link) : (l.elapse d).fieldDrive = l.fieldDrive := rfl
@[simp] theorem Link.elapse_slotDrive (d : Nat) (l : Link) : (l.elapse d).slotDrive = l.slotDrive := rfl
@[simp] theorem Meas.elapse_scanTimer (d : Nat) (l : Meas) : (l.elapse d).scanTimer = adv d l.scanTimer := rfl
@[simp] theorem Meas.elapse_scan (d : Nat) (l : Meas) : (l.elapse d).scan = l.scan.map fun c => { c with time := c.time + d } := rfl
@[simp] theorem Meas.elapse_temps (d : Nat) (l : Meas) : (l.elapse d).temps = l.temps := rfl
@[simp] theorem Meas.elapse_sensorFault (d : Nat) (l : Meas) : (l.elapse d).sensorFault = l.sensorFault := rfl
@[simp] theorem Meas.elapse_summary (d : Nat) (l : Meas) : (l.elapse d).summary = l.summary := rfl
@[simp] theorem Meas.elapse_result (d : Nat) (l : Meas) : (l.elapse d).result = l.result := rfl
@[simp] theorem Meas.elapse_page0 (d : Nat) (l : Meas) : (l.elapse d).page0 = l.page0 := rfl
@[simp] theorem Meas.elapse_page1 (d : Nat) (l : Meas) : (l.elapse d).page1 = l.page1 := rfl
@[simp] theorem Meas.elapse_readOne (d : Nat) (l : Meas) : (l.elapse d).readOne = l.readOne := rfl
@[simp] theorem Meas.elapse_pageHold (d : Nat) (l : Meas) : (l.elapse d).pageHold = l.pageHold := rfl
@[simp] theorem Meas.elapse_scanNumber (d : Nat) (l : Meas) : (l.elapse d).scanNumber = l.scanNumber := rfl
@[simp] theorem Cont.elapse_state (d : Nat) (l : Cont) : (l.elapse d).state = l.state := rfl
@[simp] theorem Cont.elapse_joinRequested (d : Nat) (l : Cont) : (l.elapse d).joinRequested = l.joinRequested := rfl
@[simp] theorem Cont.elapse_closeTimer (d : Nat) (l : Cont) : (l.elapse d).closeTimer = adv d l.closeTimer := rfl
@[simp] theorem Cont.elapse_openTimer (d : Nat) (l : Cont) : (l.elapse d).openTimer = adv d l.openTimer := rfl
@[simp] theorem Cont.elapse_matchCount (d : Nat) (l : Cont) : (l.elapse d).matchCount = l.matchCount := rfl
@[simp] theorem Cont.elapse_claimSeen (d : Nat) (l : Cont) : (l.elapse d).claimSeen = adv d l.claimSeen := rfl
@[simp] theorem Cont.elapse_claim (d : Nat) (l : Cont) : (l.elapse d).claim = l.claim := rfl
@[simp] theorem Cont.elapse_auxClosed (d : Nat) (l : Cont) : (l.elapse d).auxClosed = l.auxClosed := rfl
@[simp] theorem Cont.elapse_auxAge (d : Nat) (l : Cont) : (l.elapse d).auxAge = l.auxAge + d := rfl
@[simp] theorem Cont.elapse_closeExpired (d : Nat) (l : Cont) : (l.elapse d).closeExpired = (l.closeExpired && d == 0) := rfl
@[simp] theorem Cont.elapse_isolateLevel (d : Nat) (l : Cont) : (l.elapse d).isolateLevel = l.isolateLevel := rfl
@[simp] theorem Cont.elapse_isolateRead (d : Nat) (l : Cont) : (l.elapse d).isolateRead = l.isolateRead := rfl
@[simp] theorem Cont.elapse_holdTicks (d : Nat) (l : Cont) : (l.elapse d).holdTicks = l.holdTicks := rfl
@[simp] theorem Cont.elapse_lockout (d : Nat) (l : Cont) : (l.elapse d).lockout = l.lockout := rfl
@[simp] theorem Cont.elapse_closeFail (d : Nat) (l : Cont) : (l.elapse d).closeFail = l.closeFail := rfl
@[simp] theorem Cont.elapse_welded (d : Nat) (l : Cont) : (l.elapse d).welded = l.welded := rfl
@[simp] theorem Plant.elapse_stagger (d : Nat) (l : Plant) : (l.elapse d).stagger = adv d l.stagger := rfl
@[simp] theorem Plant.elapse_staggerDone (d : Nat) (l : Plant) : (l.elapse d).staggerDone = l.staggerDone := rfl
@[simp] theorem Plant.elapse_fadamp (d : Nat) (l : Plant) : (l.elapse d).fadamp = l.fadamp := rfl
@[simp] theorem Plant.elapse_chFaults (d : Nat) (l : Plant) : (l.elapse d).chFaults = l.chFaults := rfl
@[simp] theorem Supp.elapse_releasePending (d : Nat) (l : Supp) : (l.elapse d).releasePending = l.releasePending := rfl
@[simp] theorem Supp.elapse_held (d : Nat) (l : Supp) : (l.elapse d).held = l.held := rfl
@[simp] theorem Supp.elapse_relPulse (d : Nat) (l : Supp) : (l.elapse d).relPulse = adv d l.relPulse := rfl
@[simp] theorem Supp.elapse_watch (d : Nat) (l : Supp) : (l.elapse d).watch = adv d l.watch := rfl
@[simp] theorem Supp.elapse_releaseFault (d : Nat) (l : Supp) : (l.elapse d).releaseFault = l.releaseFault := rfl
@[simp] theorem Grid.elapse_running (d : Nat) (l : Grid) : (l.elapse d).running = l.running := rfl
@[simp] theorem Grid.elapse_state (d : Nat) (l : Grid) : (l.elapse d).state = l.state := rfl
@[simp] theorem Grid.elapse_gridOk (d : Nat) (l : Grid) : (l.elapse d).gridOk = l.gridOk := rfl
@[simp] theorem Grid.elapse_brkAux (d : Nat) (l : Grid) : (l.elapse d).brkAux = l.brkAux := rfl
@[simp] theorem Grid.elapse_pcsReady (d : Nat) (l : Grid) : (l.elapse d).pcsReady = l.pcsReady := rfl
@[simp] theorem Grid.elapse_gridOkAge (d : Nat) (l : Grid) : (l.elapse d).gridOkAge = l.gridOkAge + d := rfl
@[simp] theorem Grid.elapse_brkAuxAge (d : Nat) (l : Grid) : (l.elapse d).brkAuxAge = l.brkAuxAge + d := rfl
@[simp] theorem Grid.elapse_pcsReadyAge (d : Nat) (l : Grid) : (l.elapse d).pcsReadyAge = l.pcsReadyAge + d := rfl
@[simp] theorem Grid.elapse_closeRequested (d : Nat) (l : Grid) : (l.elapse d).closeRequested = l.closeRequested := rfl
@[simp] theorem Grid.elapse_reconnect (d : Nat) (l : Grid) : (l.elapse d).reconnect = adv d l.reconnect := rfl
@[simp] theorem Grid.elapse_permitCount (d : Nat) (l : Grid) : (l.elapse d).permitCount = l.permitCount := rfl
@[simp] theorem Grid.elapse_presentCount (d : Nat) (l : Grid) : (l.elapse d).presentCount = l.presentCount := rfl
@[simp] theorem Grid.elapse_closePulse (d : Nat) (l : Grid) : (l.elapse d).closePulse = adv d l.closePulse := rfl
@[simp] theorem Grid.elapse_closeTimer (d : Nat) (l : Grid) : (l.elapse d).closeTimer = adv d l.closeTimer := rfl
@[simp] theorem Grid.elapse_tripTimer (d : Nat) (l : Grid) : (l.elapse d).tripTimer = adv d l.tripTimer := rfl
@[simp] theorem Grid.elapse_tripCause (d : Nat) (l : Grid) : (l.elapse d).tripCause = l.tripCause := rfl

/-- Running stages are the same after some time. -/
theorem any_running_elapse (d : Nat) (p : Plant) : (p.elapse d).stages.any (·.running) = p.stages.any (·.running) := by
  simp [Plant.elapse, Function.comp_def]

@[simp] theorem State.inOperation_elapse (d : Nat) (s : State) (r : Role) : (s.elapse d).inOperation r = s.inOperation r := by
  cases r
  · exact any_running_elapse d s.plant
  · rfl
  · rfl

/-! ### The shape of a command -/

/-- A command that acts answers a next state: the one its step gives after the time, with the rival watch of R193. -/
theorem act_powered {dt : Nat} {f : State → State} {s : State} (h : s.powered = true) :
    act dt f s = .next (settle (s.elapse dt) (f (s.elapse dt))) := by
  simp [act, h]

/-- Without supply nothing changes. -/
theorem act_unpowered {dt : Nat} {f : State → State} {s : State} (h : s.powered = false) : act dt f s = .next s := by
  simp [act, h]

/-- The rival watch does nothing to a role whose flag has not gone from set to clear. -/
theorem rivalClaim_eq_self {before s : State} {r : Role} (h : before.inOperation r = true → s.inOperation r = true) :
    rivalClaim before r s = s := by
  unfold rivalClaim
  split
  · rename_i hc
    simp only [Bool.and_eq_true, Bool.not_eq_true'] at hc
    have h2 := h hc.1.1.1
    rw [hc.1.1.2] at h2
    exact absurd h2 (by decide)
  · rfl

/-- The rival watch does nothing at a command that takes no role out of operation. -/
theorem settle_eq_self {before s : State} (h : ∀ r, before.inOperation r = true → s.inOperation r = true) :
    settle before s = s := by
  unfold settle
  rw [rivalClaim_eq_self (h .plant), rivalClaim_eq_self (h .grid), rivalClaim_eq_self (h .supp)]

/-- A command whose step takes no role out of operation answers what its step gives. -/
theorem act_quiet {dt : Nat} {f : State → State} {s : State} (h : s.powered = true)
    (hq : ∀ r, (s.elapse dt).inOperation r = true → (f (s.elapse dt)).inOperation r = true) :
    act dt f s = .next (f (s.elapse dt)) := by
  rw [act_powered h, settle_eq_self hq]

end Sys2Proof.Machine
end

