-- ==== Sys2Proof/Laws/Frames.lean ====
section
/-! SUPPORT. The fields that the operations over the outbound queue leave as they are. -/

namespace Sys2Proof.Machine

/-- What the loss of a queued notice leaves (R52): it ends a readout or CONT's claim. -/
@[simp] theorem dropEffect_keeps_blocks (n : OutNotice) (s : State) :
    (dropEffect n s).powered = s.powered ∧ (dropEffect n s).indicator = s.indicator ∧ (dropEffect n s).link = s.link
    ∧ (dropEffect n s).rcv = s.rcv ∧ (dropEffect n s).monitor = s.monitor ∧ (dropEffect n s).cell = s.cell
    ∧ (dropEffect n s).alw = s.alw ∧ (dropEffect n s).therm = s.therm ∧ (dropEffect n s).plant = s.plant
    ∧ (dropEffect n s).fire = s.fire ∧ (dropEffect n s).supp = s.supp ∧ (dropEffect n s).grid = s.grid
    ∧ (dropEffect n s).retained = s.retained ∧ (dropEffect n s).pending = s.pending := by
  unfold dropEffect endReadout; split <;> (try split) <;> simp

/-- What the loss of a queued notice leaves (R52): it ends a readout or CONT's claim. The fields of cfg. -/
@[simp] theorem dropEffect_keeps_cfg (n : OutNotice) (s : State) :
    (dropEffect n s).cfg.address = s.cfg.address ∧ (dropEffect n s).cfg.straps = s.cfg.straps
    ∧ (dropEffect n s).cfg.image = s.cfg.image ∧ (dropEffect n s).cfg.loaded = s.cfg.loaded ∧ (dropEffect n s).cfg.valid = s.cfg.valid
    ∧ (dropEffect n s).cfg.yielded = s.cfg.yielded ∧ (dropEffect n s).cfg.roleYielded = s.cfg.roleYielded
    ∧ (dropEffect n s).cfg.rivals = s.cfg.rivals := by
  unfold dropEffect endReadout; split <;> (try split) <;> simp

/-- What the loss of a queued notice leaves (R52): it ends a readout or CONT's claim. The fields of meas. -/
@[simp] theorem dropEffect_keeps_meas (n : OutNotice) (s : State) :
    (dropEffect n s).meas.scanTimer = s.meas.scanTimer ∧ (dropEffect n s).meas.scan = s.meas.scan
    ∧ (dropEffect n s).meas.temps = s.meas.temps ∧ (dropEffect n s).meas.sensorFault = s.meas.sensorFault
    ∧ (dropEffect n s).meas.summary = s.meas.summary ∧ (dropEffect n s).meas.result = s.meas.result
    ∧ (dropEffect n s).meas.page0 = s.meas.page0 ∧ (dropEffect n s).meas.page1 = s.meas.page1
    ∧ (dropEffect n s).meas.readOne = s.meas.readOne ∧ (dropEffect n s).meas.scanNumber = s.meas.scanNumber := by
  unfold dropEffect endReadout; split <;> (try split) <;> simp

/-- What the loss of a queued notice leaves (R52): it ends a readout or CONT's claim. The fields of cont. -/
@[simp] theorem dropEffect_keeps_cont (n : OutNotice) (s : State) :
    (dropEffect n s).cont.joinRequested = s.cont.joinRequested ∧ (dropEffect n s).cont.closeTimer = s.cont.closeTimer
    ∧ (dropEffect n s).cont.openTimer = s.cont.openTimer ∧ (dropEffect n s).cont.matchCount = s.cont.matchCount
    ∧ (dropEffect n s).cont.claimSeen = s.cont.claimSeen ∧ (dropEffect n s).cont.claim = s.cont.claim
    ∧ (dropEffect n s).cont.auxClosed = s.cont.auxClosed ∧ (dropEffect n s).cont.auxAge = s.cont.auxAge
    ∧ (dropEffect n s).cont.closeExpired = s.cont.closeExpired ∧ (dropEffect n s).cont.isolateLevel = s.cont.isolateLevel
    ∧ (dropEffect n s).cont.isolateRead = s.cont.isolateRead ∧ (dropEffect n s).cont.holdTicks = s.cont.holdTicks
    ∧ (dropEffect n s).cont.lockout = s.cont.lockout ∧ (dropEffect n s).cont.closeFail = s.cont.closeFail
    ∧ (dropEffect n s).cont.welded = s.cont.welded := by
  unfold dropEffect endReadout; split <;> (try split) <;> simp

/-- What the loss of a queued notice leaves (R52): it ends a readout or CONT's claim. The fields of mail. -/
@[simp] theorem dropEffect_keeps_mail (n : OutNotice) (s : State) :
    (dropEffect n s).mail.inbound = s.mail.inbound ∧ (dropEffect n s).mail.holdOff = s.mail.holdOff
    ∧ (dropEffect n s).mail.noticeUndelivered = s.mail.noticeUndelivered ∧ (dropEffect n s).mail.inboundOverrun = s.mail.inboundOverrun := by
  unfold dropEffect endReadout; split <;> (try split) <;> simp

/-- What handing LINK a notice leaves (R51, R52). -/
@[simp] theorem queueNotice_keeps_blocks (n : OutNotice) (s : State) :
    (queueNotice n s).powered = s.powered ∧ (queueNotice n s).indicator = s.indicator ∧ (queueNotice n s).link = s.link
    ∧ (queueNotice n s).rcv = s.rcv ∧ (queueNotice n s).monitor = s.monitor ∧ (queueNotice n s).cell = s.cell
    ∧ (queueNotice n s).alw = s.alw ∧ (queueNotice n s).therm = s.therm ∧ (queueNotice n s).plant = s.plant
    ∧ (queueNotice n s).fire = s.fire ∧ (queueNotice n s).supp = s.supp ∧ (queueNotice n s).grid = s.grid
    ∧ (queueNotice n s).retained = s.retained ∧ (queueNotice n s).pending = s.pending := by
  unfold queueNotice; repeat (first | split | simp)

/-- What handing LINK a notice leaves (R51, R52). The fields of cfg. -/
@[simp] theorem queueNotice_keeps_cfg (n : OutNotice) (s : State) :
    (queueNotice n s).cfg.address = s.cfg.address ∧ (queueNotice n s).cfg.straps = s.cfg.straps
    ∧ (queueNotice n s).cfg.image = s.cfg.image ∧ (queueNotice n s).cfg.loaded = s.cfg.loaded
    ∧ (queueNotice n s).cfg.valid = s.cfg.valid ∧ (queueNotice n s).cfg.yielded = s.cfg.yielded
    ∧ (queueNotice n s).cfg.roleYielded = s.cfg.roleYielded ∧ (queueNotice n s).cfg.rivals = s.cfg.rivals := by
  unfold queueNotice; repeat (first | split | simp)

/-- What handing LINK a notice leaves (R51, R52). The fields of meas. -/
@[simp] theorem queueNotice_keeps_meas (n : OutNotice) (s : State) :
    (queueNotice n s).meas.scanTimer = s.meas.scanTimer ∧ (queueNotice n s).meas.scan = s.meas.scan
    ∧ (queueNotice n s).meas.temps = s.meas.temps ∧ (queueNotice n s).meas.sensorFault = s.meas.sensorFault
    ∧ (queueNotice n s).meas.summary = s.meas.summary ∧ (queueNotice n s).meas.result = s.meas.result
    ∧ (queueNotice n s).meas.page0 = s.meas.page0 ∧ (queueNotice n s).meas.page1 = s.meas.page1
    ∧ (queueNotice n s).meas.readOne = s.meas.readOne ∧ (queueNotice n s).meas.scanNumber = s.meas.scanNumber := by
  unfold queueNotice; repeat (first | split | simp)

/-- What handing LINK a notice leaves (R51, R52). The fields of cont. -/
@[simp] theorem queueNotice_keeps_cont (n : OutNotice) (s : State) :
    (queueNotice n s).cont.joinRequested = s.cont.joinRequested ∧ (queueNotice n s).cont.closeTimer = s.cont.closeTimer
    ∧ (queueNotice n s).cont.openTimer = s.cont.openTimer ∧ (queueNotice n s).cont.matchCount = s.cont.matchCount
    ∧ (queueNotice n s).cont.claimSeen = s.cont.claimSeen ∧ (queueNotice n s).cont.claim = s.cont.claim
    ∧ (queueNotice n s).cont.auxClosed = s.cont.auxClosed ∧ (queueNotice n s).cont.auxAge = s.cont.auxAge
    ∧ (queueNotice n s).cont.closeExpired = s.cont.closeExpired ∧ (queueNotice n s).cont.isolateLevel = s.cont.isolateLevel
    ∧ (queueNotice n s).cont.isolateRead = s.cont.isolateRead ∧ (queueNotice n s).cont.holdTicks = s.cont.holdTicks
    ∧ (queueNotice n s).cont.lockout = s.cont.lockout ∧ (queueNotice n s).cont.closeFail = s.cont.closeFail
    ∧ (queueNotice n s).cont.welded = s.cont.welded := by
  unfold queueNotice; repeat (first | split | simp)

/-- What handing LINK a notice leaves (R51, R52). The fields of mail. -/
@[simp] theorem queueNotice_keeps_mail (n : OutNotice) (s : State) :
    (queueNotice n s).mail.inbound = s.mail.inbound ∧ (queueNotice n s).mail.holdOff = s.mail.holdOff
    ∧ (queueNotice n s).mail.noticeUndelivered = s.mail.noticeUndelivered
    ∧ (queueNotice n s).mail.inboundOverrun = s.mail.inboundOverrun := by
  unfold queueNotice; repeat (first | split | simp)

/-- What a role claim leaves. -/
@[simp] theorem queueRoleClaim_keeps_blocks (r : Role) (s : State) :
    (queueRoleClaim r s).powered = s.powered ∧ (queueRoleClaim r s).indicator = s.indicator ∧ (queueRoleClaim r s).link = s.link
    ∧ (queueRoleClaim r s).rcv = s.rcv ∧ (queueRoleClaim r s).monitor = s.monitor ∧ (queueRoleClaim r s).cell = s.cell
    ∧ (queueRoleClaim r s).alw = s.alw ∧ (queueRoleClaim r s).therm = s.therm ∧ (queueRoleClaim r s).plant = s.plant
    ∧ (queueRoleClaim r s).fire = s.fire ∧ (queueRoleClaim r s).supp = s.supp ∧ (queueRoleClaim r s).grid = s.grid
    ∧ (queueRoleClaim r s).retained = s.retained ∧ (queueRoleClaim r s).pending = s.pending := by
  simp [queueRoleClaim]

/-- What a role claim leaves. The fields of cfg. -/
@[simp] theorem queueRoleClaim_keeps_cfg (r : Role) (s : State) :
    (queueRoleClaim r s).cfg.address = s.cfg.address ∧ (queueRoleClaim r s).cfg.straps = s.cfg.straps
    ∧ (queueRoleClaim r s).cfg.image = s.cfg.image ∧ (queueRoleClaim r s).cfg.loaded = s.cfg.loaded
    ∧ (queueRoleClaim r s).cfg.valid = s.cfg.valid ∧ (queueRoleClaim r s).cfg.yielded = s.cfg.yielded
    ∧ (queueRoleClaim r s).cfg.roleYielded = s.cfg.roleYielded ∧ (queueRoleClaim r s).cfg.rivals = s.cfg.rivals := by
  simp [queueRoleClaim]

/-- What a role claim leaves. The fields of meas. -/
@[simp] theorem queueRoleClaim_keeps_meas (r : Role) (s : State) :
    (queueRoleClaim r s).meas.scanTimer = s.meas.scanTimer ∧ (queueRoleClaim r s).meas.scan = s.meas.scan
    ∧ (queueRoleClaim r s).meas.temps = s.meas.temps ∧ (queueRoleClaim r s).meas.sensorFault = s.meas.sensorFault
    ∧ (queueRoleClaim r s).meas.summary = s.meas.summary ∧ (queueRoleClaim r s).meas.result = s.meas.result
    ∧ (queueRoleClaim r s).meas.page0 = s.meas.page0 ∧ (queueRoleClaim r s).meas.page1 = s.meas.page1
    ∧ (queueRoleClaim r s).meas.readOne = s.meas.readOne ∧ (queueRoleClaim r s).meas.scanNumber = s.meas.scanNumber := by
  simp [queueRoleClaim]

/-- What a role claim leaves. The fields of cont. -/
@[simp] theorem queueRoleClaim_keeps_cont (r : Role) (s : State) :
    (queueRoleClaim r s).cont.joinRequested = s.cont.joinRequested ∧ (queueRoleClaim r s).cont.closeTimer = s.cont.closeTimer
    ∧ (queueRoleClaim r s).cont.openTimer = s.cont.openTimer ∧ (queueRoleClaim r s).cont.matchCount = s.cont.matchCount
    ∧ (queueRoleClaim r s).cont.claimSeen = s.cont.claimSeen ∧ (queueRoleClaim r s).cont.claim = s.cont.claim
    ∧ (queueRoleClaim r s).cont.auxClosed = s.cont.auxClosed ∧ (queueRoleClaim r s).cont.auxAge = s.cont.auxAge
    ∧ (queueRoleClaim r s).cont.closeExpired = s.cont.closeExpired ∧ (queueRoleClaim r s).cont.isolateLevel = s.cont.isolateLevel
    ∧ (queueRoleClaim r s).cont.isolateRead = s.cont.isolateRead ∧ (queueRoleClaim r s).cont.holdTicks = s.cont.holdTicks
    ∧ (queueRoleClaim r s).cont.lockout = s.cont.lockout ∧ (queueRoleClaim r s).cont.closeFail = s.cont.closeFail
    ∧ (queueRoleClaim r s).cont.welded = s.cont.welded := by
  simp [queueRoleClaim]

/-- What a role claim leaves. The fields of mail. -/
@[simp] theorem queueRoleClaim_keeps_mail (r : Role) (s : State) :
    (queueRoleClaim r s).mail.inbound = s.mail.inbound ∧ (queueRoleClaim r s).mail.holdOff = s.mail.holdOff
    ∧ (queueRoleClaim r s).mail.noticeUndelivered = s.mail.noticeUndelivered
    ∧ (queueRoleClaim r s).mail.inboundOverrun = s.mail.inboundOverrun := by
  simp [queueRoleClaim]

/-- What the claim after an operation against a rival leaves (R193). -/
@[simp] theorem rivalClaim_keeps_blocks (b : State) (r : Role) (s : State) :
    (rivalClaim b r s).powered = s.powered ∧ (rivalClaim b r s).indicator = s.indicator ∧ (rivalClaim b r s).link = s.link
    ∧ (rivalClaim b r s).rcv = s.rcv ∧ (rivalClaim b r s).monitor = s.monitor ∧ (rivalClaim b r s).cell = s.cell
    ∧ (rivalClaim b r s).alw = s.alw ∧ (rivalClaim b r s).therm = s.therm ∧ (rivalClaim b r s).plant = s.plant
    ∧ (rivalClaim b r s).fire = s.fire ∧ (rivalClaim b r s).supp = s.supp ∧ (rivalClaim b r s).grid = s.grid
    ∧ (rivalClaim b r s).retained = s.retained ∧ (rivalClaim b r s).pending = s.pending := by
  unfold rivalClaim; split <;> simp

/-- What the claim after an operation against a rival leaves (R193). The fields of cfg. -/
@[simp] theorem rivalClaim_keeps_cfg (b : State) (r : Role) (s : State) :
    (rivalClaim b r s).cfg.address = s.cfg.address ∧ (rivalClaim b r s).cfg.straps = s.cfg.straps
    ∧ (rivalClaim b r s).cfg.image = s.cfg.image ∧ (rivalClaim b r s).cfg.loaded = s.cfg.loaded
    ∧ (rivalClaim b r s).cfg.valid = s.cfg.valid ∧ (rivalClaim b r s).cfg.yielded = s.cfg.yielded
    ∧ (rivalClaim b r s).cfg.roleYielded = s.cfg.roleYielded ∧ (rivalClaim b r s).cfg.rivals = s.cfg.rivals := by
  unfold rivalClaim; split <;> simp

/-- What the claim after an operation against a rival leaves (R193). The fields of meas. -/
@[simp] theorem rivalClaim_keeps_meas (b : State) (r : Role) (s : State) :
    (rivalClaim b r s).meas.scanTimer = s.meas.scanTimer ∧ (rivalClaim b r s).meas.scan = s.meas.scan
    ∧ (rivalClaim b r s).meas.temps = s.meas.temps ∧ (rivalClaim b r s).meas.sensorFault = s.meas.sensorFault
    ∧ (rivalClaim b r s).meas.summary = s.meas.summary ∧ (rivalClaim b r s).meas.result = s.meas.result
    ∧ (rivalClaim b r s).meas.page0 = s.meas.page0 ∧ (rivalClaim b r s).meas.page1 = s.meas.page1
    ∧ (rivalClaim b r s).meas.readOne = s.meas.readOne ∧ (rivalClaim b r s).meas.scanNumber = s.meas.scanNumber := by
  unfold rivalClaim; split <;> simp

/-- What the claim after an operation against a rival leaves (R193). The fields of cont. -/
@[simp] theorem rivalClaim_keeps_cont (b : State) (r : Role) (s : State) :
    (rivalClaim b r s).cont.joinRequested = s.cont.joinRequested ∧ (rivalClaim b r s).cont.closeTimer = s.cont.closeTimer
    ∧ (rivalClaim b r s).cont.openTimer = s.cont.openTimer ∧ (rivalClaim b r s).cont.matchCount = s.cont.matchCount
    ∧ (rivalClaim b r s).cont.claimSeen = s.cont.claimSeen ∧ (rivalClaim b r s).cont.claim = s.cont.claim
    ∧ (rivalClaim b r s).cont.auxClosed = s.cont.auxClosed ∧ (rivalClaim b r s).cont.auxAge = s.cont.auxAge
    ∧ (rivalClaim b r s).cont.closeExpired = s.cont.closeExpired ∧ (rivalClaim b r s).cont.isolateLevel = s.cont.isolateLevel
    ∧ (rivalClaim b r s).cont.isolateRead = s.cont.isolateRead ∧ (rivalClaim b r s).cont.holdTicks = s.cont.holdTicks
    ∧ (rivalClaim b r s).cont.lockout = s.cont.lockout ∧ (rivalClaim b r s).cont.closeFail = s.cont.closeFail
    ∧ (rivalClaim b r s).cont.welded = s.cont.welded := by
  unfold rivalClaim; split <;> simp

/-- What the claim after an operation against a rival leaves (R193). The fields of mail. -/
@[simp] theorem rivalClaim_keeps_mail (b : State) (r : Role) (s : State) :
    (rivalClaim b r s).mail.inbound = s.mail.inbound ∧ (rivalClaim b r s).mail.holdOff = s.mail.holdOff
    ∧ (rivalClaim b r s).mail.noticeUndelivered = s.mail.noticeUndelivered
    ∧ (rivalClaim b r s).mail.inboundOverrun = s.mail.inboundOverrun := by
  unfold rivalClaim; split <;> simp

/-- What the rival watch at the end of a command leaves. -/
@[simp] theorem settle_keeps_blocks (b s : State) :
    (settle b s).powered = s.powered ∧ (settle b s).indicator = s.indicator ∧ (settle b s).link = s.link ∧ (settle b s).rcv = s.rcv
    ∧ (settle b s).monitor = s.monitor ∧ (settle b s).cell = s.cell ∧ (settle b s).alw = s.alw ∧ (settle b s).therm = s.therm
    ∧ (settle b s).plant = s.plant ∧ (settle b s).fire = s.fire ∧ (settle b s).supp = s.supp ∧ (settle b s).grid = s.grid
    ∧ (settle b s).retained = s.retained ∧ (settle b s).pending = s.pending := by
  simp [settle]

/-- What the rival watch at the end of a command leaves. The fields of cfg. -/
@[simp] theorem settle_keeps_cfg (b s : State) :
    (settle b s).cfg.address = s.cfg.address ∧ (settle b s).cfg.straps = s.cfg.straps ∧ (settle b s).cfg.image = s.cfg.image
    ∧ (settle b s).cfg.loaded = s.cfg.loaded ∧ (settle b s).cfg.valid = s.cfg.valid ∧ (settle b s).cfg.yielded = s.cfg.yielded
    ∧ (settle b s).cfg.roleYielded = s.cfg.roleYielded ∧ (settle b s).cfg.rivals = s.cfg.rivals := by
  simp [settle]

/-- What the rival watch at the end of a command leaves. The fields of meas. -/
@[simp] theorem settle_keeps_meas (b s : State) :
    (settle b s).meas.scanTimer = s.meas.scanTimer ∧ (settle b s).meas.scan = s.meas.scan ∧ (settle b s).meas.temps = s.meas.temps
    ∧ (settle b s).meas.sensorFault = s.meas.sensorFault ∧ (settle b s).meas.summary = s.meas.summary
    ∧ (settle b s).meas.result = s.meas.result ∧ (settle b s).meas.page0 = s.meas.page0 ∧ (settle b s).meas.page1 = s.meas.page1
    ∧ (settle b s).meas.readOne = s.meas.readOne ∧ (settle b s).meas.scanNumber = s.meas.scanNumber := by
  simp [settle]

/-- What the rival watch at the end of a command leaves. The fields of cont. -/
@[simp] theorem settle_keeps_cont (b s : State) :
    (settle b s).cont.joinRequested = s.cont.joinRequested ∧ (settle b s).cont.closeTimer = s.cont.closeTimer
    ∧ (settle b s).cont.openTimer = s.cont.openTimer ∧ (settle b s).cont.matchCount = s.cont.matchCount
    ∧ (settle b s).cont.claimSeen = s.cont.claimSeen ∧ (settle b s).cont.claim = s.cont.claim
    ∧ (settle b s).cont.auxClosed = s.cont.auxClosed ∧ (settle b s).cont.auxAge = s.cont.auxAge
    ∧ (settle b s).cont.closeExpired = s.cont.closeExpired ∧ (settle b s).cont.isolateLevel = s.cont.isolateLevel
    ∧ (settle b s).cont.isolateRead = s.cont.isolateRead ∧ (settle b s).cont.holdTicks = s.cont.holdTicks
    ∧ (settle b s).cont.lockout = s.cont.lockout ∧ (settle b s).cont.closeFail = s.cont.closeFail
    ∧ (settle b s).cont.welded = s.cont.welded := by
  simp [settle]

/-- What the rival watch at the end of a command leaves. The fields of mail. -/
@[simp] theorem settle_keeps_mail (b s : State) :
    (settle b s).mail.inbound = s.mail.inbound ∧ (settle b s).mail.holdOff = s.mail.holdOff
    ∧ (settle b s).mail.noticeUndelivered = s.mail.noticeUndelivered ∧ (settle b s).mail.inboundOverrun = s.mail.inboundOverrun := by
  simp [settle]

/-- What handing the dropped claims over again leaves (R192). -/
@[simp] theorem reclaimRoles_keeps_blocks (rs : List Role) : ∀ s : State,
    (reclaimRoles rs s).powered = s.powered ∧ (reclaimRoles rs s).indicator = s.indicator ∧ (reclaimRoles rs s).link = s.link
    ∧ (reclaimRoles rs s).rcv = s.rcv ∧ (reclaimRoles rs s).monitor = s.monitor ∧ (reclaimRoles rs s).cell = s.cell
    ∧ (reclaimRoles rs s).alw = s.alw ∧ (reclaimRoles rs s).therm = s.therm ∧ (reclaimRoles rs s).plant = s.plant
    ∧ (reclaimRoles rs s).fire = s.fire ∧ (reclaimRoles rs s).supp = s.supp ∧ (reclaimRoles rs s).grid = s.grid
    ∧ (reclaimRoles rs s).retained = s.retained ∧ (reclaimRoles rs s).pending = s.pending := by
  induction rs with
  | nil => intro s; simp [reclaimRoles]
  | cons r rs ih =>
    intro s
    unfold reclaimRoles
    split
    · simp only [ih]; split <;> simp
    · simp

end Sys2Proof.Machine
end

