-- ==== Sys2Proof/Laws/Ops.lean ====
section
/-! SUPPORT. What each shared operation can do, said once. Later proofs cite these and unfold none of the operations. -/

namespace Sys2Proof.Machine

/-! ### The outbound queue (R51, R52) -/

/-- Inserting a notice adds one. -/
@[simp] theorem insertNotice_length (n : OutNotice) (q : List OutNotice) : (insertNotice n q).length = q.length + 1 := by
  induction q with
  | nil => rfl
  | cons m ms ih => unfold insertNotice; split <;> simp [ih]

/-- The notices of a queue after an insertion: the old ones and the new one. -/
theorem mem_insertNotice {a n : OutNotice} {q : List OutNotice} : a ∈ insertNotice n q ↔ a = n ∨ a ∈ q := by
  induction q with
  | nil => simp [insertNotice]
  | cons m ms ih =>
    unfold insertNotice
    split
    · simp
    · simp only [List.mem_cons, ih]; exact or_left_comm

/-- The order of the queue (R51): SAFETY first. -/
def Ordered (q : List OutNotice) : Prop := q.Pairwise fun a b => a.priority.code ≤ b.priority.code

/-- An insertion keeps the order. -/
theorem ordered_insertNotice {n : OutNotice} {q : List OutNotice} (h : Ordered q) : Ordered (insertNotice n q) := by
  induction q with
  | nil => simp [insertNotice, Ordered]
  | cons m ms ih =>
    have hm := List.pairwise_cons.1 h
    unfold insertNotice
    split
    · rename_i hlt
      refine List.pairwise_cons.2 ⟨fun b hb => ?_, h⟩
      rcases List.mem_cons.1 hb with rfl | hb
      · omega
      · have := hm.1 b hb; omega
    · rename_i hge
      refine List.pairwise_cons.2 ⟨fun b hb => ?_, ih hm.2⟩
      rcases mem_insertNotice.1 hb with rfl | hb
      · omega
      · exact hm.1 b hb

/-- What handing LINK a notice can do: nothing in FAULT; placed; placed after the last and least urgent one was dropped; dropped. -/
theorem queueNotice_cases (n : OutNotice) (s : State) :
    (s.link.state = .fault ∧ queueNotice n s = s)
    ∨ (s.link.state ≠ .fault ∧ s.mail.outbound.length < 8
        ∧ queueNotice n s = s.setMail { s.mail with outbound := insertNotice n s.mail.outbound })
    ∨ (s.link.state ≠ .fault ∧ 8 ≤ s.mail.outbound.length ∧ ∃ v, s.mail.outbound.getLast? = some v
        ∧ n.priority.code < v.priority.code ∧ v.mark = .waiting
        ∧ queueNotice n s = dropEffect v
            (s.setMail { s.mail with outbound := insertNotice n s.mail.outbound.dropLast, outboundDropped := true }))
    ∨ (s.link.state ≠ .fault ∧ 8 ≤ s.mail.outbound.length
        ∧ queueNotice n s = dropEffect n (s.setMail { s.mail with outboundDropped := true })) := by
  unfold queueNotice outboundCapacity
  by_cases hf : s.link.state = .fault
  · simp [hf]
  · by_cases hl : s.mail.outbound.length < 8
    · simp [hf, hl]
    · have hne : s.mail.outbound ≠ [] := by intro h; simp [h] at hl
      obtain ⟨v, hv⟩ : ∃ v, s.mail.outbound.getLast? = some v := ⟨_, List.getLast?_eq_some_getLast hne⟩
      simp only [hf, hl, if_false, hv]
      by_cases hc : n.priority.code < v.priority.code ∧ v.mark = .waiting
      · right; right; left
        exact ⟨hf, by omega, v, rfl, hc.1, hc.2, by simp [hc]⟩
      · right; right; right
        exact ⟨hf, by omega, by simp [hc]⟩

/-- A notice handed over with room in the queue, outside FAULT, is placed and changes nothing else. -/
theorem queueNotice_room {n : OutNotice} {s : State} (hf : s.link.state ≠ .fault) (hr : s.mail.outbound.length < 8) :
    queueNotice n s = s.setMail { s.mail with outbound := insertNotice n s.mail.outbound } := by
  simp [queueNotice, hf, outboundCapacity, hr]

/-! ### Notices taken (R54) -/

/-- What a command of a notice kind can do: nothing, or take the head and resolve it. -/
theorem takeHead_cases (mine : Option Kind → Bool) (effect : InNotice → State → State) (refused : State → State) (s : State) :
    takeHead mine effect refused s = s
    ∨ ∃ n rest, s.mail.inbound = n :: rest ∧ mine (Kind.ofCode n.kind) = true
        ∧ (s.needsReply n = true → s.mail.outbound.length < 8)
        ∧ takeHead mine effect refused s
            = resolve effect refused n (s.verdict n) (s.setMail { s.mail with inbound := rest }) := by
  unfold takeHead
  split
  · exact .inl rfl
  · rename_i n rest hq
    split
    · rename_i hc
      simp only [Bool.and_eq_true, Bool.or_eq_true, Bool.not_eq_true', decide_eq_true_eq] at hc
      refine .inr ⟨n, rest, hq, hc.1, fun hr => ?_, rfl⟩
      rcases hc.2 with h | h
      · rw [h] at hr; exact absurd hr (by decide)
      · exact h
    · exact .inl rfl

/-- A head of the command's kind that its owner takes and that needs no reply. -/
theorem takeKind_taken {k : Kind} {effect : InNotice → State → State} {s : State} {n : InNotice} {rest : List InNotice}
    (hq : s.mail.inbound = n :: rest) (hk : Kind.ofCode n.kind = some k) (hv : s.verdict n = .taken)
    (hr : s.needsReply n = true → s.mail.outbound.length < 8) :
    takeKind k effect s = effect n (s.setMail { s.mail with inbound := rest }) := by
  unfold takeKind takeHead
  simp only [hq, hk, hv, resolve]
  cases h : s.needsReply n
  · simp
  · simp [hr h, outboundCapacity]

end Sys2Proof.Machine
end

