-- ==== Sys2Proof/Laws/Blocks.lean ====
section
/-! SUPPORT. What the shared operations of CONT, GRID and LINK can do: each entry of a state in one equation, and what the larger
operations leave. -/

namespace Sys2Proof.Machine

/-! ### Roles in operation -/

@[simp] theorem inOperation_setMail (s : State) (x : Mail) (r : Role) : (s.setMail x).inOperation r = s.inOperation r := by cases r <;> rfl
@[simp] theorem inOperation_setCont (s : State) (x : Cont) (r : Role) : (s.setCont x).inOperation r = s.inOperation r := by cases r <;> rfl
@[simp] theorem inOperation_setMeas (s : State) (x : Meas) (r : Role) : (s.setMeas x).inOperation r = s.inOperation r := by cases r <;> rfl
@[simp] theorem inOperation_setAlw (s : State) (x : Alw) (r : Role) : (s.setAlw x).inOperation r = s.inOperation r := by cases r <;> rfl
@[simp] theorem inOperation_setTherm (s : State) (x : Therm) (r : Role) : (s.setTherm x).inOperation r = s.inOperation r := by
  cases r <;> rfl
@[simp] theorem inOperation_setCell (s : State) (x : Cell) (r : Role) : (s.setCell x).inOperation r = s.inOperation r := by cases r <;> rfl
@[simp] theorem inOperation_setLink (s : State) (x : Link) (r : Role) : (s.setLink x).inOperation r = s.inOperation r := by cases r <;> rfl
@[simp] theorem inOperation_setRcv (s : State) (x : Rcv) (r : Role) : (s.setRcv x).inOperation r = s.inOperation r := by cases r <;> rfl
@[simp] theorem inOperation_setMonitor (s : State) (x : Monitor) (r : Role) : (s.setMonitor x).inOperation r = s.inOperation r := by
  cases r <;> rfl
@[simp] theorem inOperation_setFire (s : State) (x : Fire) (r : Role) : (s.setFire x).inOperation r = s.inOperation r := by cases r <;> rfl
@[simp] theorem inOperation_setIndicator (s : State) (x : Indicator) (r : Role) : (s.setIndicator x).inOperation r = s.inOperation r := by
  cases r <;> rfl
@[simp] theorem inOperation_setCfg (s : State) (x : Cfg) (r : Role) : (s.setCfg x).inOperation r = s.inOperation r := by cases r <;> rfl

/-- A step that leaves every role's operation as it was answers what it gives. -/
theorem act_same {dt : Nat} {f : State → State} {s t : State} (hp : s.powered = true) (h : f (s.elapse dt) = t)
    (ho : ∀ r, t.inOperation r = s.inOperation r) : act dt f s = .next t := by
  rw [act_powered hp, h, settle_eq_self]
  intro r hr
  rw [State.inOperation_elapse] at hr
  rw [ho r, hr]

/-- A step of GRID answers what it gives, unless it enters OPEN with a rival recorded (R193). -/
theorem act_grid {dt : Nat} {f : State → State} {s t : State} (hp : s.powered = true) (h : f (s.elapse dt) = t)
    (hr : t.grid.running = s.grid.running)
    (hst : t.grid.state ≠ .brkOpen ∨ s.grid.state = .brkOpen ∨ t.cfg.rivals.grid = none)
    (h1 : t.plant = (s.elapse dt).plant) (h2 : t.supp.releasePending = s.supp.releasePending)
    (h3 : t.retained.releasedLatch = s.retained.releasedLatch) : act dt f s = .next t := by
  have hplant : (s.elapse dt).inOperation .plant = true → t.inOperation .plant = true := by
    simp only [State.inOperation, h1]; exact id
  have hsupp : (s.elapse dt).inOperation .supp = true → t.inOperation .supp = true := by
    simp only [State.inOperation, State.elapse_supp, Supp.elapse_releasePending, State.elapse_retained, h2, h3]; exact id
  have hgrid : rivalClaim (s.elapse dt) .grid t = t := by
    rcases hst with h | h | h
    · apply rivalClaim_eq_self; simp [State.inOperation, hr, h]; intro a; simp [a]
    · apply rivalClaim_eq_self; simp [State.inOperation, h]
    · unfold rivalClaim; rw [if_neg]; simp [Rivals.get, h]
  rw [act_powered hp, h]
  unfold settle
  rw [rivalClaim_eq_self hplant, hgrid, rivalClaim_eq_self hsupp]

/-! ### A notice at the head of the inbound queue -/

@[simp] theorem State.verdict_elapse (d : Nat) (s : State) (n : InNotice) : (s.elapse d).verdict n = s.verdict n := rfl
@[simp] theorem State.needsReply_elapse (d : Nat) (s : State) (n : InNotice) : (s.elapse d).needsReply n = s.needsReply n := rfl

/-- The RESULT that answers a directed notice, with room in the queue. -/
theorem answer_directed {n : InNotice} {r : Reason} {s : State} (hd : n.dest ≠ 31) (hf : s.link.state ≠ .fault)
    (h8 : s.mail.outbound.length < 8) :
    answer n r s = s.setMail { s.mail with outbound :=
        (insertNotice ⟨.control, n.source, .result, [BitVec.ofNat 8 n.kind, BitVec.ofNat 8 r.code], .link, .waiting⟩
          s.mail.outbound) } := by
  simp only [answer, InNotice.directed, broadcast]
  simp only [bne_iff_ne, ne_eq, hd, not_false_eq_true, if_true, queueResult]
  rw [queueNotice_room hf h8]

/-- A broadcast gets no answer. -/
theorem answer_broadcast {n : InNotice} {r : Reason} {s : State} (hd : n.dest = 31) : answer n r s = s := by
  simp [answer, InNotice.directed, broadcast, hd]

/-- The head of the queue is of the command's kind: it is taken and resolved. -/
theorem takeHead_taken {mine : Option Kind → Bool} {effect : InNotice → State → State} {refused : State → State} {s : State}
    {n : InNotice} {rest : List InNotice} (hq : s.mail.inbound = n :: rest) (hm : mine (Kind.ofCode n.kind) = true)
    (hr : s.needsReply n = true → s.mail.outbound.length < 8) :
    takeHead mine effect refused s = resolve effect refused n (s.verdict n) (s.setMail { s.mail with inbound := rest }) := by
  unfold takeHead
  simp only [hq, hm, Bool.true_and]
  cases h : s.needsReply n
  · simp
  · simp [hr h, outboundCapacity]

/-- A head that needs a reply waits while the outbound queue is full (R54). -/
theorem takeHead_waits {mine : Option Kind → Bool} {effect : InNotice → State → State} {refused : State → State} {s : State}
    {n : InNotice} {rest : List InNotice} (hq : s.mail.inbound = n :: rest) (hr : s.needsReply n = true)
    (h8 : 8 ≤ s.mail.outbound.length) : takeHead mine effect refused s = s := by
  unfold takeHead
  simp only [hq, hr]
  simp [outboundCapacity, Nat.not_lt.2 h8]

/-- A command notice that its owner takes: the effect on the station after the time, without the notice. -/
theorem act_taken {k : Kind} {effect : InNotice → State → State} {dt : Nat} {s : State} {n : InNotice} {rest : List InNotice}
    (hp : s.powered = true) (hq : s.mail.inbound = n :: rest) (hk : Kind.ofCode n.kind = some k) (hv : s.verdict n = .taken)
    (hr : s.needsReply n = true → s.mail.outbound.length < 8) :
    act dt (takeKind k effect) s
      = .next (settle (s.elapse dt) (effect n ((s.elapse dt).setMail { s.mail with inbound := rest }))) := by
  rw [act_powered hp, takeKind_taken (s := s.elapse dt) (n := n) (rest := rest) hq hk hv hr]
  rfl

/-- A refused notice: answered when it is directed, discarded when it is a broadcast. -/
theorem act_refused {dt : Nat} {mine : Option Kind → Bool} {effect : InNotice → State → State} {refused : State → State} {s : State}
    {n : InNotice} {rest : List InNotice} {r : Reason} (hp : s.powered = true) (hq : s.mail.inbound = n :: rest)
    (hm : mine (Kind.ofCode n.kind) = true)
    (hv : s.verdict n = .refused r ∨ s.verdict n = .ownerRefuses r ∧ refused = id) :
    (n.dest ≠ 31 → s.link.state ≠ .fault → s.mail.outbound.length < 8 →
      act dt (takeHead mine effect refused) s = .next ((s.elapse dt).setMail { s.mail with
        inbound := rest
        outbound := (insertNotice ⟨.control, n.source, .result, [BitVec.ofNat 8 n.kind, BitVec.ofNat 8 r.code], .link, .waiting⟩
          s.mail.outbound) }))
    ∧ (n.dest = 31 →
      act dt (takeHead mine effect refused) s = .next ((s.elapse dt).setMail { s.mail with inbound := rest })) := by
  constructor
  · intro hd hf h8
    refine act_same hp ?_ (by simp)
    rw [takeHead_taken (s := s.elapse dt) (n := n) (rest := rest) hq hm (fun _ => h8), State.verdict_elapse]
    rcases hv with h | ⟨h, h2⟩
    · rw [h]; simp only [resolve]; rw [answer_directed hd (by simpa using hf) (by simpa using h8)]; rfl
    · rw [h]; simp only [resolve, h2, id]; rw [answer_directed hd (by simpa using hf) (by simpa using h8)]; rfl
  · intro hd
    refine act_same hp ?_ (by simp)
    have hnr : s.needsReply n = false := by simp [State.needsReply, InNotice.directed, broadcast, hd]
    rw [takeHead_taken (s := s.elapse dt) (n := n) (rest := rest) hq hm (by rw [State.needsReply_elapse, hnr]; simp),
      State.verdict_elapse]
    rcases hv with h | ⟨h, h2⟩
    · rw [h]; simp only [resolve]; rw [answer_broadcast hd]; rfl
    · rw [h]; simp only [resolve, h2, id]; rw [answer_broadcast hd]; rfl

/-! ### CONT -/

/-- What an evaluation of the close conditions can do (R117). -/
theorem contEvaluate_cases (s : State) :
    (s.closeConditions = true ∧ s.cont.state = .rackOpen ∧ contEvaluate s = leaveOpen s)
    ∨ (s.closeConditions = false ∧ s.cont.state = .waitMatch ∧ contEvaluate s = s.setCont (s.cont.enter .rackOpen))
    ∨ (s.closeConditions = false ∧ s.cont.state = .claiming
        ∧ contEvaluate s = (withdrawClaim s).setCont (s.cont.enter .rackOpen))
    ∨ (s.closeConditions = false ∧ (s.cont.state = .closing ∨ s.cont.state = .closed)
        ∧ contEvaluate s = s.setCont s.cont.open')
    ∨ contEvaluate s = s := by
  unfold contEvaluate
  cases h : s.closeConditions <;> cases hs : s.cont.state <;> simp

section
variable {α : Type} (g : State → α) (hcont : ∀ s x, g (State.setCont s x) = g s) (hmail : ∀ s x, g (State.setMail s x) = g s)
  (hqueue : ∀ n s, g (queueNotice n s) = g s)
include hcont hmail hqueue

/-- An evaluation of the close conditions changes CONT and the outbound queue alone. -/
theorem contEvaluate_keeps (s : State) : g (contEvaluate s) = g s := by
  unfold contEvaluate leaveOpen enterClaiming withdrawClaim
  split <;> split <;> (try split) <;> (try split) <;> simp only [hcont, hmail, hqueue]

/-- CONT at a scan completion changes CONT and the outbound queue alone. -/
theorem contScan_keeps (r : Bool) (s : State) : g (contScan r s) = g s := by
  have hopen : ∀ s, g (overcurrentOpen s) = g s := by intro s; unfold overcurrentOpen; split <;> simp only [hcont]
  have hmatch : ∀ s, g (matchTest s) = g s := by intro s; unfold matchTest; simp only []; split <;> simp only [hcont]
  have heval := contEvaluate_keeps g hcont hmail hqueue
  unfold contScan
  simp only []
  repeat' split
  all_goals simp only [hopen, hmatch, hcont, heval]

end

/-! ### GRID -/

/-- A breaker state other than CLOSED entered: the limits are 0/0 (R112). -/
theorem setBreaker_eq {s : State} {st : BreakerState} (h : st ≠ .closed) :
    setBreaker st s = (s.setGrid { s.grid with state := st, closePulse := none, closeTimer := none }).setAlw
      { s.alw with limits := ⟨0, 0⟩, duties := ⟨0, 0⟩ } := by
  unfold setBreaker refreshLimits
  have : (s.setGrid { s.grid with state := st, closePulse := none, closeTimer := none }).computeLimits = ⟨0, 0⟩ := by
    unfold State.computeLimits
    cases st <;> simp_all
  rw [this]; simp [dutyOf]

/-- A breaker state entered leaves the limits current. -/
theorem setBreaker_limits (s : State) (st : BreakerState) :
    (setBreaker st s).alw.limits = (setBreaker st s).computeLimits ∧ (setBreaker st s).grid.state = st := ⟨rfl, rfl⟩

/-- Entry to CLOSING with BRK_AUX open (R176). -/
theorem enterClosing_eq {s : State} (ha : s.grid.brkAux = false) :
    enterClosing s = (s.setGrid { s.grid with state := .closing, closePulse := some 0, closeTimer := some 0 }).setAlw
      { s.alw with limits := ⟨0, 0⟩, duties := ⟨0, 0⟩ } := by
  unfold enterClosing; rw [if_neg (by simp [ha]), setBreaker_eq (by simp)]; rfl

/-- The close test fails while the reconnect timer is stopped or has just started. -/
theorem closeTest_restarted {s : State} (h : s.grid.reconnect = none ∨ (s.grid.reconnect = some 0 ∧ 0 < s.config.reconnectDelay)) :
    s.closeTest = false := by
  have : reached (s.config.reconnectDelay * second) s.grid.reconnect = false := by
    rcases h with h | ⟨h, h2⟩
    · rw [h]; rfl
    · rw [h]; simp [second]; omega
  simp [State.closeTest, this]

/-- Entry to OPEN with fewer than three lockout records, where no close follows at once (R175). -/
theorem enterOpen_few {s : State} (hl : s.retained.lockoutRecords < 3) (hc : s.closeTest = false ∨ s.grid.closeRequested = false) :
    enterOpen s = (s.setGrid
      { s.grid with state := if s.grid.closeRequested then .reconnectWait else .brkOpen, closePulse := none, closeTimer := none }).setAlw
      { s.alw with limits := ⟨0, 0⟩, duties := ⟨0, 0⟩ } := by
  unfold enterOpen
  rw [if_neg (by omega)]
  by_cases h : s.grid.closeRequested = true
  · rw [if_pos h, if_pos h, setBreaker_eq (by simp)]
    unfold applyCloseTest
    rw [if_neg]
    rintro ⟨_, h2⟩
    have : s.closeTest = true := h2
    rcases hc with h | h' <;> simp_all
  · rw [if_neg h, if_neg h, setBreaker_eq (by simp)]

/-- Entry to OPEN with three lockout records is entry to RECLOSE_LOCKOUT (R184). -/
theorem enterOpen_many {s : State} (hl : 3 ≤ s.retained.lockoutRecords) :
    enterOpen s = (s.setGrid
      { s.grid with state := .recloseLockout, closeRequested := false, closePulse := none, closeTimer := none }).setAlw
      { s.alw with limits := ⟨0, 0⟩, duties := ⟨0, 0⟩ } := by
  unfold enterOpen
  rw [if_pos hl, setBreaker_eq (by simp)]; rfl

/-- A trip that starts with BRK_AUX closed runs (R179). -/
theorem startTrip_running {s : State} {cause : TripCause} (ha : s.grid.brkAux = true) :
    startTrip cause s = (s.setGrid
      { s.grid with state := .tripping, tripTimer := some 0, tripCause := some cause, closePulse := none, closeTimer := none }).setAlw
      { s.alw with limits := ⟨0, 0⟩, duties := ⟨0, 0⟩ } := by
  unfold startTrip; rw [setBreaker_eq (by simp)]
  exact if_pos ha

/-- A trip that starts with BRK_AUX open completes at once (R179). -/
theorem startTrip_completes {s : State} {cause : TripCause} (ha : s.grid.brkAux = false) :
    startTrip cause s = completeTrip cause true ((s.setGrid
      { s.grid with state := .tripping, tripTimer := some 0, tripCause := some cause, closePulse := none, closeTimer := none }).setAlw
      { s.alw with limits := ⟨0, 0⟩, duties := ⟨0, 0⟩ }) := by
  unfold startTrip; rw [setBreaker_eq (by simp)]
  exact if_neg (by show ¬ s.grid.brkAux = true; simp [ha])

section
variable {α : Type} (g : State → α) (hgrid : ∀ s x, g (State.setGrid s x) = g s) (halw : ∀ s x, g (State.setAlw s x) = g s)
  (hret : ∀ s x, g (State.setRetained s x) = g s) (hqueue : ∀ n s, g (queueNotice n s) = g s)
include hgrid halw hret hqueue

omit hret hqueue in
/-- GRID's operations change GRID, the limits, the records and the queues alone: any other view of the station is kept. -/
theorem setBreaker_keeps (st : BreakerState) (s : State) : g (setBreaker st s) = g s := by
  unfold setBreaker refreshLimits; simp only [hgrid, halw]

omit hret hqueue in
/-- The close test. -/
theorem applyCloseTest_keeps (s : State) : g (applyCloseTest s) = g s := by
  have hb := setBreaker_keeps g hgrid halw
  unfold applyCloseTest enterClosing
  repeat' split
  all_goals simp only [hgrid, hb]

omit hret hqueue in
/-- Entry to OPEN. -/
theorem enterOpen_keeps (s : State) : g (enterOpen s) = g s := by
  have hb := setBreaker_keeps g hgrid halw
  have ht := applyCloseTest_keeps g hgrid halw
  unfold enterOpen
  repeat' split
  all_goals simp only [hgrid, hb, ht]

/-- A trip that completes. -/
theorem completeTrip_keeps (c : TripCause) (b : Bool) (s : State) : g (completeTrip c b s) = g s := by
  have hb := setBreaker_keeps g hgrid halw
  have ho := enterOpen_keeps g hgrid halw
  unfold completeTrip recordTrip enterBreakerFault
  simp only []
  split <;> simp only [hgrid, hqueue, hret, hb, ho]

/-- A trip that starts. -/
theorem startTrip_keeps (c : TripCause) (s : State) : g (startTrip c s) = g s := by
  have hb := setBreaker_keeps g hgrid halw
  have hc := completeTrip_keeps g hgrid halw hret hqueue
  unfold startTrip
  simp only []
  split <;> simp only [hgrid, hb, hc]

/-- GRID at the link-fault event. -/
theorem gridLinkFault_keeps (s : State) : g (gridLinkFault s) = g s := by
  have ht := startTrip_keeps g hgrid halw hret hqueue
  unfold gridLinkFault
  simp only []
  repeat' split
  all_goals simp only [hgrid, ht]

end

/-! ### PLANT -/

theorem map_modify_eq {α β : Type} (f : α → α) (g : α → β) (h : ∀ a, g (f a) = g a) (l : List α) :
    ∀ k, (l.modify k f).map g = l.map g := by
  induction l with
  | nil => intro k; simp
  | cons a l ih => intro k; cases k <;> simp [List.modify_succ_cons, h, ih]

/-- Taking a limit (R140) leaves which stages run and every timer as they are; it sets flags alone. -/
theorem Plant.takeLimit_keeps (timer : PlantTimer) (p : Plant) :
    (p.takeLimit timer).stages.map (fun g => (g.running, g.onTime, g.offTime)) = p.stages.map (fun g => (g.running, g.onTime, g.offTime))
    ∧ (p.takeLimit timer).stagger = p.stagger ∧ (p.takeLimit timer).fadamp = p.fadamp ∧ (p.takeLimit timer).chFaults = p.chFaults := by
  cases timer with
  | stagger => exact ⟨rfl, rfl, rfl, rfl⟩
  | on k => cases k <;> simp [Plant.takeLimit, map_modify_eq]
  | off k => cases k <;> simp [Plant.takeLimit, map_modify_eq]

theorem Plant.takeLimit_running (timer : PlantTimer) (p : Plant) :
    (p.takeLimit timer).stages.map (·.running) = p.stages.map (·.running) := by
  simpa [Function.comp_def] using congrArg (List.map (·.1)) (p.takeLimit_keeps timer).1

/-! ### LINK -/

/-- LINK's own part of the entry to FAULT (R12). -/
theorem enterFault_link (r : FaultReason) (s : State) : (enterFault r s).link = { s.link with
    state := .fault, faultReason := some r, phase := .none, lsyncDriven := false, pulse := none, silence := none
    frameTimer := none, frameTime := none, lowTime := none, missTimer := none, echoWait := false, fixed := [], fields := none
    slotRoom := [], arb := none } := by
  unfold enterFault refreshLimits endReadout
  simp only [State.setAlw_link]
  rw [gridLinkFault_keeps (fun s => s.link) (by simp) (by simp) (by simp) (by simp),
    contEvaluate_keeps (fun s => s.link) (by simp) (by simp) (by simp)]
  simp

/-- What the end of an own pulse's 2 µs can do (R14): nothing where no pulse waits for its echo, else the count, and FAULT at 3. -/
theorem echoEnds_cases (s : State) :
    ((s.link.state ≠ .active ∨ s.link.echoWait = false ∨ reached recognition s.link.frameTimer = false) ∧ echoEnds s = s)
    ∨ (s.link.state = .active ∧ s.link.echoWait = true ∧ reached recognition s.link.frameTimer = true ∧ ∃ n u,
        n = (if s.link.frameFaulted = true ∧ s.link.unechoed = false then s.link.driveFaults else s.link.driveFaults + 1)
        ∧ u = s.setLink { s.link with driveFaults := n, frameFaulted := true, unechoed := true, echoWait := false }
        ∧ echoEnds s = if 3 ≤ n then enterFault .driveFault u else u) := by
  unfold echoEnds unechoedExpiry
  by_cases ha : s.link.state = .active <;> by_cases he : s.link.echoWait = true <;>
    by_cases hr : reached recognition s.link.frameTimer = true <;> simp [ha, he, hr]
  cases s.link.frameFaulted <;> cases s.link.unechoed <;> rfl

/-- In FAULT no role claim is handed over. -/
theorem settle_fault {before s : State} (h : s.link.state = .fault) : settle before s = s := by
  have hr : ∀ r, rivalClaim before r s = s := by
    intro r; unfold rivalClaim queueRoleClaim queueNotice; rw [if_pos h]; simp
  unfold settle; rw [hr .plant, hr .grid, hr .supp]

end Sys2Proof.Machine
end

