-- ==== Sys2Proof/Laws/Conditions.lean ====
section
/-! SUPPORT. The conditions that the machine tests, and the same conditions as the statements spell them out. -/

namespace Sys2Proof.Machine

theorem CellClass.latched_iff (c : CellClass) : c.latched = true ↔ c = .lowTrip ∨ c = .highTrip ∨ c = .openWire := by
  cases c <;> decide

theorem State.anyTrip_eq_false (s : State) :
    s.anyTrip = false ↔ ∀ cls ∈ s.classes, cls ≠ .lowTrip ∧ cls ≠ .highTrip ∧ cls ≠ .openWire := by
  simp only [State.anyTrip, List.any_eq_false, CellClass.latched_iff, not_or]

theorem State.suppStage_eq_normal (s : State) : s.suppStage = .normal ↔ (s.holds .supp = true → s.publishedStage = .normal) := by
  unfold State.suppStage; split <;> simp_all

/-- R117. -/
theorem State.mayJoin_iff (s : State) : s.mayJoin ↔ s.closeConditions = true := by
  simp only [State.mayJoin, State.closeConditions, ← State.anyTrip_eq_false, ← State.suppStage_eq_normal, Bool.and_eq_true,
    Bool.not_eq_true', beq_iff_eq, and_assoc]

theorem reached_iff (limit : Nat) (t : Option Nat) : reached limit t = true ↔ ∃ n, t = some n ∧ limit ≤ n := by
  cases t <;> simp [reached]

/-- R175. -/
theorem State.mayClose_iff (s : State) : s.mayClose ↔ s.closeTest = true := by
  simp only [State.mayClose, State.closeTest, second, Bool.and_eq_true, reached_iff, beq_iff_eq, decide_eq_true_eq, and_assoc]

/-- R40. -/
theorem State.grantsPermit_iff (s : State) :
    s.grantsPermit = true ↔ s.link.state = .active ∧ s.configValid = true ∧ s.fire.localStage = .normal ∧ s.publishedStage = .normal
      ∧ s.rcv.stage = .normal ∧ s.anyTrip = false ∧ s.cont.state ≠ .welded ∧ s.cont.lockout = false
      ∧ (s.grid.running = true → s.grid.state ≠ .breakerFault) ∧ s.memberMissing = false := by
  simp only [State.grantsPermit, State.breakerFault, Bool.and_eq_true, Bool.not_eq_true', Bool.and_eq_false_imp, beq_iff_eq,
    beq_eq_false_iff_ne, bne_iff_ne, and_assoc]

/-- R195, the steady pattern. -/
theorem State.alertSteady_iff (s : State) : s.alertSteady = true ↔
    s.fire.localStage ≠ .normal ∨ s.rcv.stage ≠ .normal ∨ s.holds .supp = true ∧ s.publishedStage ≠ .normal := by
  simp only [State.alertSteady, Bool.or_eq_true, bne_iff_ne, ne_eq, State.suppStage_eq_normal, Classical.not_imp, or_assoc]

/-- R195, the fast pattern. -/
theorem State.alertFast_iff (s : State) : s.alertFast = true ↔
    s.anyTrip = true ∨ s.cont.welded = true
      ∨ s.grid.running = true ∧ (s.grid.state = .breakerFault ∨ s.grid.state = .recloseLockout)
      ∨ s.configInvalid = true ∨ s.link.state = .fault ∨ s.cont.lockout = true ∨ s.supp.releaseFault = true ∨ s.own = 31 := by
  simp only [State.alertFast, State.strapInvalid, Bool.or_eq_true, Bool.and_eq_true, beq_iff_eq, or_assoc]

/-- R195, the slow pattern. -/
theorem State.alertSlow_iff (s : State) : s.alertSlow = true ↔
    s.anyWarn = true ∨ (∃ l ∈ s.fire.lines, l.lineFault = true) ∨ s.meas.sensorFault = true ∨ s.memberMissing = true
      ∨ s.monitor.stranger = true ∨ s.cont.closeFail = true ∨ s.cell.overcurrent = true ∨ s.mail.noticeUndelivered = true
      ∨ s.mail.outboundDropped = true ∨ s.mail.inboundOverrun = true ∨ s.cfg.roleYielded = true ∨ s.link.lineStuck = true := by
  simp only [State.alertSlow, State.anyLineFault, Bool.or_eq_true, List.any_eq_true, or_assoc]

theorem setCount_eq (x : AddrSet) : setCount x = ((List.range 32).filter fun a => x.getLsbD a).length := List.countP_eq_length_filter

/-- R110, R112, R113. -/
theorem State.limitsSafe_iff (s : State) : s.limitsSafe ↔
    s.alw.limits = s.computeLimits ∧ s.alw.duties = ⟨dutyOf s.config s.alw.limits.chg, dutyOf s.config s.alw.limits.dis⟩ := by
  simp only [State.limitsSafe, State.computeLimits, limitOf, dutyOf, setCount_eq, Bool.and_eq_true, beq_iff_eq, bne_iff_ne, and_assoc]
  by_cases hg : s.holds .grid = true ∧ s.grid.running = true ∧ s.grid.state = .closed ∧ s.link.state ≠ .fault
  · have limit : ∀ (n reading x : Nat), (if n ≠ 0 ∧ reading ≠ 255 then x else 0) = if n = 0 ∨ reading = 255 then 0 else x := by
      intro n reading x; split <;> split <;> simp_all
    simp only [hg.1, hg.2.1, hg.2.2.1, hg.2.2.2, true_and, not_false_eq_true, ne_eq, if_true, ← limit]
  · have : ∀ p : Prop, ¬ (s.holds .grid = true ∧ s.grid.running = true ∧ s.grid.state = .closed ∧ s.link.state ≠ .fault ∧ p) :=
      fun p h => hg ⟨h.1, h.2.1, h.2.2.1, h.2.2.2.1⟩
    simp only [if_neg (this _), if_neg hg]

/-- R151. -/
theorem State.lineCounts_iff (s : State) (i : Nat) : s.lineCounts i ↔ s.lineIsActive i = true := by
  simp only [State.lineCounts, State.lineIsActive, lineActive, State.lineCfg, FireLine.initial, Bool.and_eq_true, bne_iff_ne]
  cases (s.config.lines.getD i ⟨.unused, .level⟩).mode <;> simp

/-- R156. -/
theorem State.coincides_iff (s : State) : s.coincides ↔ s.coincidence = true := by
  simp only [State.coincides, State.coincidence, Bool.and_eq_true, Bool.not_eq_true', beq_iff_eq, bne_iff_ne, and_assoc]

theorem State.alone_iff (s : State) : s.alone ↔ s.suppAlone = true := by
  simp only [State.alone, State.suppAlone, Bool.or_eq_true, bne_iff_ne]

/-- R162, R166. -/
theorem State.holdAsked_iff (s : State) : s.holdAsked ↔ s.holdReading = false := by
  unfold State.holdAsked State.holdReading
  rw [State.alone_iff]
  cases s.suppAlone <;> simp

/-- R161. -/
theorem State.starts_iff (s : State) : s.starts ↔ s.startCondition = true := by
  simp only [State.starts, State.startCondition, State.alone_iff, Bool.or_eq_true, Bool.and_eq_true, Bool.not_eq_true', beq_iff_eq,
    bne_iff_ne, Bool.not_eq_true]
  cases s.suppAlone <;> simp [and_comm]

end Sys2Proof.Machine
end

