-- ==== Sys2Proof/Laws/Image.lean ====
section
/-! SUPPORT. The configuration image: the checks and the layout as the statements spell them out (R189, 12.4). -/

namespace Sys2Proof.Machine

/-! ### Bytes, words and ranges -/

theorem byteAt_lt (img : List Byte) (i : Nat) : byteAt img i < 256 := (img.getD i 0xFF#8).isLt
theorem wordAt_lt (img : List Byte) (i : Nat) : wordAt img i < 65536 := by
  have := byteAt_lt img i; have := byteAt_lt img (i + 1); unfold wordAt; omega

theorem within_iff (lo v hi : Int) : within lo v hi = true ↔ lo ≤ v ∧ v ≤ hi := by simp [within]

/-! ### The four checks (R98, R189) -/

theorem parseImage_members (img : List Byte) (a : Nat) :
    (parseImage img).members.getLsbD a = (wordAt img 1 * 65536 + wordAt img 3).testBit a := by
  have h : wordAt img 1 * 65536 + wordAt img 3 < 2 ^ 32 := by have := wordAt_lt img 1; have := wordAt_lt img 3; omega
  simp only [parseImage, BitVec.getLsbD, BitVec.toNat_ofNat, Nat.mod_eq_of_lt h]

theorem tableOk_iff (img : List Byte) (b : Nat) : tableOk (tableAt img b) = true ↔
    breakpointsSound (fun k => signedAt img (b + 3 * k)) (fun k => byteAt img (b + 3 * k + 2)) := by
  simp only [tableOk, tableAt, breakpointAt, breakpointsSound, Nat.forall_lt_succ_right, Nat.not_lt_zero, List.range, List.range.loop,
    List.map, List.all, List.zip, List.zipWith, List.drop, within_iff, Bool.and_eq_true, decide_eq_true_eq]
  simp
  omega

theorem profileOk_iff (img : List Byte) (p : Nat) : profileOk (profileAt img p) = true ↔ ∀ b, b = 176 + 44 * p →
    breakpointsSound (fun k => signedAt img (b + 3 * k)) (fun k => byteAt img (b + 3 * k + 2))
    ∧ breakpointsSound (fun k => signedAt img (b + 18 + 3 * k)) (fun k => byteAt img (b + 18 + 3 * k + 2))
    ∧ wordAt img (b + 36) < wordAt img (b + 38) ∧ wordAt img (b + 38) ≤ 5000
    ∧ wordAt img (b + 40) < wordAt img (b + 42) ∧ wordAt img (b + 42) ≤ 5000 := by
  simp only [profileOk, Bool.and_eq_true, within_iff, decide_eq_true_eq, and_assoc]
  simp only [profileAt, tableOk_iff, forall_eq]
  refine and_congr_right fun _ => and_congr_right fun _ => ?_
  omega

/-- R189: the checks of the model are the four of the table. -/
theorem imageValid_iff (own : Nat) (img : List Byte) : imageValid own img = true ↔ imageSound own img := by
  have hc : (parseImage img).commanders.isEmpty = false ↔ ∃ k < 4, byteAt img (5 + k) ≠ 255 := by
    simp [parseImage, commandersAt, List.isEmpty_eq_false_iff, List.filter_eq_nil_iff]
  have hb : (∀ a ∈ (parseImage img).commanders, a ≤ 30) ↔ ∀ k < 4, byteAt img (5 + k) ≤ 30 ∨ byteAt img (5 + k) = 255 := by
    simp only [parseImage, commandersAt, List.mem_filter, List.mem_map, List.mem_range, bne_iff_ne]
    constructor
    · intro h k hk; have := h (byteAt img (5 + k)); by_cases he : byteAt img (5 + k) = 255
      · exact .inr he
      · exact .inl (this ⟨⟨k, hk, rfl⟩, he⟩)
    · rintro h _ ⟨⟨k, hk, rfl⟩, hne⟩; exact (h k hk).resolve_right hne
  have ht : ((parseImage img).tempSet != 0) = true ↔ byteAt img 10 ≠ 0 := by
    have := byteAt_lt img 10
    simp [parseImage, ← BitVec.toNat_inj, Nat.mod_eq_of_lt this]
  have hl : (parseImage img).calib.all (fun k => within 0 k.gain 32767 && within (-512) k.offset 511) = true ↔
      ∀ c < 26, wordAt img (12 + 4 * c) ≤ 32767 ∧ -512 ≤ signedAt img (14 + 4 * c) ∧ signedAt img (14 + 4 * c) ≤ 511 := by
    simp only [parseImage, List.all_eq_true, List.forall_mem_map, List.mem_range, Bool.and_eq_true, within_iff]
    refine forall₂_congr fun c _ => ?_; omega
  have hp : (parseImage img).profiles.all profileOk = true ↔ ∀ p < 4, profileOk (profileAt img p) = true := by
    simp only [parseImage, List.all_eq_true, List.forall_mem_map, List.mem_range]
  have hm : membersOk own (parseImage img) = true ↔ (own ≠ 31 → (wordAt img 1 * 65536 + wordAt img 3).testBit own = true
      ∧ (wordAt img 1 * 65536 + wordAt img 3).testBit 31 = false) := by
    simp only [membersOk, parseImage_members, Bool.or_eq_true, beq_iff_eq, Bool.and_eq_true, Bool.not_eq_true']
    by_cases h : own = 31 <;> simp [h]
  have e1 : ∀ i, (img.getD i 0xFF#8).toNat = byteAt img i := fun _ => rfl
  have e2 : ∀ i, byteAt img i * 256 + byteAt img (i + 1) = wordAt img i := fun _ => rfl
  have e3 : ∀ i, (if wordAt img i < 32768 then (wordAt img i : Int) else (wordAt img i : Int) - 65536) = signedAt img i := fun _ => rfl
  simp only [imageValid, codesOk, settingsOk, Bool.and_eq_true, hl, hp, hm, ht, profileOk_iff, Bool.not_eq_true', hc, List.all_eq_true,
    decide_eq_true_eq, hb, within_iff, beq_iff_eq, List.mem_range, and_assoc]
  simp only [imageSound, e1, e2, e3, -Nat.reduceAdd]
  simp only [parseImage]
  constructor <;> intro h <;> (repeat obtain ⟨_, h⟩ := h) <;> and_intros <;> first | assumption | omega

/-! ### The layout (12.4) -/

theorem lineTypeOf_eq (v : Nat) :
    lineTypeOf v = [LineType.smoke, .heat, .gas, .callpoint, .hold, .door].getD v .unused := by
  rcases v with _ | _ | _ | _ | _ | _ | v <;> rfl

/-- 12.4: the settings read from an image are those it stores, each at its place. -/
theorem storedIn_parseImage (img : List Byte) : storedIn (parseImage img) img := by
  refine ⟨fun a _ => parseImage_members img a, ?_, ?_⟩
  · intro a; simp only [parseImage, commandersAt, List.mem_filter, List.mem_map, List.mem_range, bne_iff_ne]
    exact And.comm
  · have ht := byteAt_lt img 10
    refine ⟨rfl, fun k hk => ?_, ?_, fun k hk => ?_, rfl, rfl, rfl, rfl, rfl, rfl, rfl, rfl, rfl, rfl, rfl, rfl, rfl, rfl, rfl, rfl,
      rfl, rfl, rfl, rfl, rfl, rfl, rfl, fun k hk => ?_, fun p hp b hb => ?_⟩
    · simp only [parseImage, BitVec.getLsbD, BitVec.toNat_ofNat, Nat.mod_eq_of_lt ht]; rfl
    · simp only [parseImage, beq_iff_eq]; rfl
    · simp only [parseImage, List.getElem?_map, List.getElem?_range hk]; rfl
    · simp only [parseImage, List.getElem?_map, List.getElem?_range hk, Option.map_some, beq_iff_eq, lineTypeOf_eq]; rfl
    · subst hb
      refine ⟨profileAt img p, ?_, fun k hk => ⟨?_, ?_⟩, rfl, rfl, rfl, rfl, rfl, rfl⟩
      · simp only [parseImage, List.getElem?_map, List.getElem?_range hp]; rfl
      · simp only [profileAt, tableAt, List.getElem?_map, List.getElem?_range hk]; rfl
      · simp only [profileAt, tableAt, List.getElem?_map, List.getElem?_range hk]; rfl
end Sys2Proof.Machine
end

