-- ==== Sys2Proof/Laws/Slot.lean ====
section
/-! SUPPORT. The bits met at a frame arrival (R5). The notice slot: what the end of slot bit 6 and the slot's end leave of LINK and of the outbound queue (R43, R44, R53); and an own
pulse that is counted (R14). -/

namespace Sys2Proof.Machine

theorem padLine_length (n : Nat) (bits : List LineBit) : (padLine n bits).length = n := by
  simp only [padLine, List.length_append, List.length_take, List.length_replicate]; omega

theorem padLine_get (n k : Nat) (bits : List LineBit) (h : k < n) : (padLine n bits)[k]? = some (bits.getD k quietBit) := by
  simp only [padLine, List.getElem?_append, List.length_take, List.getElem?_take, List.getElem?_replicate, List.getD]
  by_cases hk : k < bits.length
  · rw [if_pos (by omega), if_pos h]; simp [hk]
  · rw [if_neg (by omega), if_pos (by omega)]; simp [List.getElem?_eq_none (by omega : bits.length ≤ k)]

/-- R5: bit k has been sampled once its middle has come. -/
theorem Link.lt_bitsSampled (l : Link) (start most k : Nat) :
    k < l.bitsSampled start most ↔ k < most ∧ ∃ n, l.frameTime = some n ∧ start + 8 * k + 4 ≤ n := by
  unfold Link.bitsSampled bitTime
  cases l.frameTime with
  | none => simp
  | some n =>
    simp only [Option.some.injEq, exists_eq_left', Nat.lt_min]
    exact and_congr_right fun _ => by omega

/-- The machine's bits are those that the statements speak of, and no others. -/
theorem Link.lineMet_iff (l : Link) (start most : Nat) (ldata bits : List LineBit) :
    l.lineMet start most ldata bits ↔ bits = l.lineSoFar start most ldata := by
  simp only [Link.lineMet, ← Link.lt_bitsSampled]
  constructor
  · rintro ⟨hl, hb⟩
    refine List.ext_getElem? fun k => ?_
    by_cases hk : k < bits.length
    · rw [hb k hk]; exact (padLine_get _ _ _ ((hl k).1 hk)).symm
    · rw [List.getElem?_eq_none (by omega), List.getElem?_eq_none]
      rw [Link.lineSoFar, padLine_length]; have := hl k; omega
  · rintro rfl
    simp only [Link.lineSoFar, padLine_length]
    exact ⟨fun _ => trivial, fun k hk => padLine_get _ _ _ hk⟩

theorem Link.bitSixOver_iff (l : Link) : l.bitSixOver ↔ (l.arb.isSome || reached 1000 l.frameTime) = true := by
  simp only [Link.bitSixOver, Bool.or_eq_true, reached_iff, Option.isSome_iff_ne_none]

/-- A slot cut off by a frame arrival is the run over the bits met; before slot bit 6 is over nobody has won it. -/
theorem slotCut_eq (ldata : List LineBit) (s : State) :
    (s.link.bitSixOver ∧ slotCut ldata s = runSlot s (s.link.lineSoFar 944 95 ldata))
    ∨ (¬ s.link.bitSixOver ∧ slotCut ldata s = { runSlot s (s.link.lineSoFar 944 95 ldata) with sent := none }) := by
  rw [Link.bitSixOver_iff]
  by_cases h : (s.link.arb.isSome || reached 1000 s.link.frameTime) = true
  · exact .inl ⟨h, if_pos h⟩
  · exact .inr ⟨h, if_neg h⟩

/-- An arbitration that has been taken stands, whatever bits a later command carries. -/
theorem arbitrate_settled {s : State} {arb : Arbitration} (h : s.link.arb = some arb) (bits : List LineBit) :
    arbitrate s bits = (s.link.slotAcc, arb.sent) := by
  unfold arbitrate; rw [h]

/-- What taking the end of slot bit 6 can do: nothing where it has been taken; else LINK keeps the run through PRIORITY and SOURCE, and the
winner leaves the queue or a withdrawn loser is removed. -/
theorem arbitrationEnds_cases (bits : List LineBit) (s : State) :
    (s.link.arb ≠ none ∧ arbitrationEnds bits s = s)
    ∨ (s.link.arb = none ∧ ∃ a sent, arbitrate s bits = (a, sent) ∧ arbitrationEnds bits s =
        (s.setLink { s.link.takeSlot a sent with arb := some ⟨a.seen, sent⟩ }).setMail (s.mail.arbitrated sent)) := by
  unfold arbitrationEnds
  cases h : s.link.arb with
  | some arb => exact .inl ⟨nofun, rfl⟩
  | none => exact .inr ⟨rfl, _, _, rfl, rfl⟩

/-- What a slot that has not ended can do: let time pass, or take the end of slot bit 6 from 1000 µs on. -/
theorem slotGoesOn_cases (bits : List LineBit) (s : State) :
    (reached 1000 s.link.frameTime = false ∧ slotGoesOn bits s = s)
    ∨ (reached 1000 s.link.frameTime = true ∧ slotGoesOn bits s = arbitrationEnds bits s) := by
  unfold slotGoesOn fieldsEnd bitTime
  cases reached (944 + 7 * 8) s.link.frameTime
  · exact .inl ⟨rfl, rfl⟩
  · exact .inr ⟨rfl, rfl⟩

/-- The queue at the slot's end, after an arbitration that the same command takes: a withdrawn loser is removed and every mark is gone. -/
theorem Mail.release_lost (m : Mail) : m.lost.release =
    { m with outbound := (m.outbound.filter fun n => n.mark != .withdrawn).map fun n => { n with mark := .waiting } } := by
  simp only [Mail.lost, Mail.release, List.map_map]
  congr 1
  refine List.map_congr_left fun n _ => ?_
  simp only [Function.comp_apply]; split <;> rfl

/-- The queue at the slot's end where the own notice has won: the others stay as they wait. -/
theorem Mail.release_won (n : OutNotice) (m : Mail) : (m.won n).release =
    { m with outbound := m.outbound.filter fun x => x.mark == .waiting, holdOff := if n.priority = .safety then m.holdOff else 0 } := by
  simp only [Mail.won, Mail.release]
  congr 1
  refine (List.map_congr_left fun x hx => ?_).trans (List.map_id _)
  have hw : x.mark = .waiting := by simpa using (List.mem_filter.1 hx).2
  cases x; subst hw; rfl

/-- The slot is over: the queue is as the statements have it, and nothing but LINK and the queue changes. -/
theorem slotTake_queue (r : SlotRun) (s : State) :
    s.slotQueue r.sent (slotTake r s).mail
    ∧ slotTake r s = (s.setLink { s.link.takeSlot r.acc r.sent with arb := none }).setMail (slotTake r s).mail := by
  refine ⟨?_, rfl⟩
  simp only [slotTake, State.setMail_mail, State.slotQueue]
  cases h : s.link.arb with
  | some arb => exact .inl ⟨nofun, by simp [Mail.release]⟩
  | none =>
    cases hs : r.sent with
    | none => exact .inr (.inl ⟨rfl, rfl, by simp [Mail.arbitrated, Mail.release_lost]⟩)
    | some n => exact .inr (.inr ⟨rfl, n, rfl, by simp [Mail.arbitrated, Mail.release_won]⟩)

theorem Link.pulseDue_iff (l : Link) : l.pulseDue ↔ l.echoWait = true ∧ reached recognition l.frameTimer = true := by
  simp only [Link.pulseDue, reached_iff, recognition]

/-- R14: a pulse that is due is counted, and two of three counts leave the station ACTIVE. -/
theorem echoEnds_counted {s g : State} (ha : s.link.state = .active) (h : s.pulseCounted g) : echoEnds s = g := by
  rcases h with ⟨hd, rfl⟩ | ⟨hd, hl, rfl⟩
  · rw [Link.pulseDue_iff] at hd
    unfold echoEnds; rw [if_neg (fun h => hd ⟨h.2.1, h.2.2⟩)]
  · rw [Link.pulseDue_iff] at hd
    rcases echoEnds_cases s with ⟨h | h | h, _⟩ | ⟨_, _, _, n, u, hn, hu, he⟩
    · exact absurd ha h
    · exact absurd (hd.1.symm.trans h) (by decide)
    · exact absurd (hd.2.symm.trans h) (by decide)
    · rw [he, hu, hn]; unfold Link.faultsDue at hl; rw [if_neg (by omega)]; rfl

/-- R13, R14: the third count enters FAULT. -/
theorem echoEnds_fault {s : State} (ha : s.link.state = .active) (hd : s.link.pulseDue) (hf : 3 ≤ s.link.faultsDue) :
    echoEnds s = enterFault .driveFault (s.setLink
      { s.link with driveFaults := s.link.faultsDue, frameFaulted := true, unechoed := true, echoWait := false }) := by
  rw [Link.pulseDue_iff] at hd
  rcases echoEnds_cases s with ⟨h | h | h, _⟩ | ⟨_, _, _, n, u, hn, hu, he⟩
  · exact absurd ha h
  · exact absurd (hd.1.symm.trans h) (by decide)
  · exact absurd (hd.2.symm.trans h) (by decide)
  · rw [he, hu, hn]; unfold Link.faultsDue at hf; rw [if_pos hf]; rfl

end Sys2Proof.Machine
end

