-- ==== Sys2Proof/WellFormed.lean ====
section
/-! DEFINITION. Well-formed commands: the operands the manual's interfaces can give. The meanings do not rest on it: an ill-formed
command has an effect too (a short image reads FFh where no byte stands, surplus line bits are not met). -/

namespace Sys2Proof

/-- The line bits fit the part of the frame they are met in: 112 bits of field area, 95 of the slot (R5, R41). -/
def fitsArea (bits : List LineBit) : Bool := decide (bits.length ≤ 112)
def fitsSlot (bits : List LineBit) : Bool := decide (bits.length ≤ 95)

/-- A plant timer names one of the stages 1 to 4 (R140). -/
def PlantTimer.wf : PlantTimer → Bool
  | .on n | .off n => decide (1 ≤ n) && decide (n ≤ 4)
  | .stagger => true

/-- Well-formed commands. -/
def Instr.wf : Instr → Bool
  | .configReadComplete _ image _ => decide (image.length = 512)
  | .frameArrival _ ldata _ => fitsArea ldata
  | .noticeSlotEnd _ ldata => fitsSlot ldata
  | .fieldAreaEnd _ ldata => fitsArea ldata
  | .plantTimerLimit _ t => t.wf
  | .powerOnReset _ | .pinReset _ | .silenceLimit _ _ | .listeningFall _ _ | .frameTimerExpiry _ _ | .lineStuckDetect _
  | .missingFrameEvent _ _ | .unknownKindNotice _ | .rackJoin _ | .rackLeave _ | .closeRequest _ | .openRequest _
  | .lockoutClear _ | .alarmReset _ | .profileSelect _ | .balanceSet _ | .statusRead _ | .snapshotRead _ | .deadBusClaim _
  | .roleClaim _ | .reportNoticeTaken _ | .scanStart _ | .conversionEnd _ _ | .scanCompletion _ | .indicatorTick _ _
  | .isolateHoldExpiry _ | .uptimeTick _ | .contAuxChange _ _ | .closeTimerExpiry _ | .openTimerExpiry _ | .claimSeenExpiry _
  | .gridOkRise _ | .gridOkFall _ | .reconnectDelayReached _ | .brkAuxClose _ | .brkAuxOpen _ | .pcsReadyChange _ _
  | .brkClosePulseEnd _ | .gridCloseTimerExpiry _ | .tripTimerExpiry _ | .countdownExpiry _ | .releasePulseEnd _
  | .confirmationWatchTimeout _ | .syncPhaseEnd _ | .lsyncPulseEnd _ | .lsyncRise _ | .supplyLoss => true

end Sys2Proof
end

