-- ==== Sys2Proof/Tests/Slice0.lean ====
section
/-! SUPPORT. Tests: ill-formed commands are refused by the checks, the manual's worked cases come out as it works them, and each statement
with hypotheses has a witness: a concrete station and operands that meet them, at the ends of their ranges. -/

-- One theorem at a time: the kernel evaluations of many tests at once would each hold a thread with its stack.
set_option Elab.async false

namespace Sys2Proof.Tests

open Sys2Proof Sys2Proof.Machine

/-! ### Well-formed commands -/

/-- An image of 512 bytes; 511 are refused. -/
theorem test_wf_image :
    (Instr.configReadComplete 0 (List.replicate 512 0xFF#8) ⟨false, false, false⟩).wf = true
    ∧ (Instr.configReadComplete 0 (List.replicate 511 0xFF#8) ⟨false, false, false⟩).wf = false := by decide +kernel

/-- 112 line bits of field area at a frame arrival; 113 are refused. -/
theorem test_wf_arrival (p : HandOverPins) :
    (Instr.frameArrival 0 (List.replicate 112 quietBit) p).wf = true
    ∧ (Instr.frameArrival 0 (List.replicate 113 quietBit) p).wf = false := by constructor <;> rfl

/-- 112 line bits at the end of the field area; 113 are refused. -/
theorem test_wf_area : (Instr.fieldAreaEnd 0 (List.replicate 112 quietBit)).wf = true
    ∧ (Instr.fieldAreaEnd 0 (List.replicate 113 quietBit)).wf = false := by decide +kernel

/-- 95 line bits of slot; 96 are refused. -/
theorem test_wf_slot : (Instr.noticeSlotEnd 0 (List.replicate 95 quietBit)).wf = true
    ∧ (Instr.noticeSlotEnd 0 (List.replicate 96 quietBit)).wf = false := by decide +kernel

/-- Stages are numbered 1 to 4. -/
theorem test_wf_stage : (Instr.plantTimerLimit 0 (.on 1)).wf = true ∧ (Instr.plantTimerLimit 0 (.off 4)).wf = true
    ∧ (Instr.plantTimerLimit 0 (.on 0)).wf = false ∧ (Instr.plantTimerLimit 0 (.off 5)).wf = false := by decide

/-! ### Worked cases of the manual -/

/-- 4.3, Worked calibration. -/
theorem test_worked_calibration :
    calibrate ⟨16384, 0⟩ 0 35120 = 3512 ∧ calibrate ⟨16400, -2⟩ 0 35120 = 3513 ∧ calibrate ⟨16300, 3⟩ 16 652 = 252
    ∧ calibrate ⟨16500, -1⟩ 24 (-1234) = -1244 ∧ calibrate ⟨17000, 0⟩ 25 64000 = 65535 ∧ calibrate ⟨16384, 0⟩ 0 65535 = 5000 := by
  decide

/-- Profile 0 of 6.2, Worked computation. -/
def workedProfile : Profile where
  charge := [⟨0, 0⟩, ⟨100, 60⟩, ⟨150, 100⟩, ⟨400, 100⟩, ⟨450, 50⟩, ⟨550, 0⟩]
  discharge := [⟨-200, 0⟩, ⟨-100, 50⟩, ⟨0, 100⟩, ⟨450, 100⟩, ⟨500, 50⟩, ⟨600, 0⟩]
  chargeKnee := 3450
  chargeCeiling := 3650
  dischargeFloor := 2800
  dischargeKnee := 3000

/-- 6.2, Worked table values at the edges. -/
theorem test_worked_table :
    tableValue (-150) workedProfile.charge = 0 ∧ tableValue 37 workedProfile.charge = 22 ∧ tableValue 100 workedProfile.charge = 60
    ∧ tableValue 1250 workedProfile.charge = 0 ∧ tableValue (-400) workedProfile.discharge = 0
    ∧ tableValue (-153) workedProfile.discharge = 23 ∧ tableValue 537 workedProfile.discharge = 31 := by decide

/-- 6.2, Worked computation: 77 % by temperature, 69 % by voltage, 110 A, published 108 A after 104. -/
theorem test_worked_pair :
    tempPercent workedProfile.charge ⟨3287, 3512, 0, 185, 423, 0, 0, 0, true⟩ = 77 ∧ chargePercent workedProfile 3512 = 69
    ∧ allowance 160 69 = 110 ∧ riseLimit 4 ⟨110, 160⟩ ⟨104, 160⟩ = ⟨108, 160⟩ ∧ allowance 160 50 = 80 := by decide

/-- 6.5, Worked cases: hand-overs 1 to 3. -/
theorem test_worked_limits :
    let c := { builtIn 0 with share := 90, pcsMax := 3000 }
    limitOf c 108 20 = 1944 ∧ dutyOf c 1944 = 2653 ∧ limitOf c 150 20 = 2700 ∧ dutyOf c 2700 = 3685
    ∧ limitOf c 108 21 = 2041 ∧ dutyOf c 2041 = 2785 ∧ limitOf c 150 21 = 2835 ∧ dutyOf c 2835 = 3869 ∧ limitOf c 0 21 = 0
    ∧ limitOf c 255 21 = 0 := by decide +kernel

/-- 8.1, Worked sequence: the base levels, and the extra level of scans 7 and 8. -/
theorem test_worked_zone :
    let next := nextBase { builtIn 0 with zoneBase := 250, zoneStep := 20, zoneHyst := 10 }
    next 238 0 = 0 ∧ next 252 0 = 1 ∧ next 291 1 = 3 ∧ next 284 3 = 3 ∧ next 278 3 = 2 ∧ next 258 2 = 1 ∧ next 258 1 = 1
    ∧ next 236 1 = 0 ∧ zoneLevel 1 4 160 300 = 2 ∧ zoneLevel 0 0 160 (-850) = 1 ∧ fanDuty 2 = 35 ∧ fanDuty 15 = 100 := by decide

/-- The channel of 5.2 after some scans at the default thresholds. -/
def scanned (ch : CellChan) (vs : List Int) : CellChan := vs.foldl (fun ch v => ch.scan (builtIn 0) v false) ch

/-- 5.2, Worked sequence: HIGH_WARN at scan 7 and HIGH_TRIP at scan 13, no earlier. -/
theorem test_worked_trip :
    (scanned .initial [3540, 3556, 3561, 3548, 3553, 3558]).cls = .normal
    ∧ scanned .initial [3540, 3556, 3561, 3548, 3553, 3558, 3562] = ⟨.highWarn, 3, 0, 0, 0, .high⟩
    ∧ (scanned ⟨.highWarn, 3, 0, 0, 0, .high⟩ [3655, 3660, 3649, 3652, 3657]).cls = .highWarn
    ∧ scanned ⟨.highWarn, 3, 0, 0, 0, .high⟩ [3655, 3660, 3649, 3652, 3657, 3661] = ⟨.highTrip, 3, 3, 0, 0, .high⟩ := by decide +kernel

/-- 5.2, Worked sequence: a warning lapses at the fifth scan inside the hysteresis. -/
theorem test_worked_lapse :
    scanned ⟨.highWarn, 3, 0, 0, 0, .high⟩ [3510, 3495, 3490, 3488, 3499] = ⟨.highWarn, 0, 0, 0, 4, .high⟩
    ∧ scanned ⟨.highWarn, 3, 0, 0, 0, .high⟩ [3510, 3495, 3490, 3488, 3499, 3497] = ⟨.normal, 0, 0, 0, 0, .high⟩ := by decide +kernel

/-- 5.4, Worked case: CV1, CV3, CV6 and CV9 are bled. -/
theorem test_worked_bleed :
    chooseBleed { builtIn 0 with cellCount := 12 }
      ⟨[3300, 3321, 3318, 3335, 3302, 3321, 3340, 3296, 3290, 3329, 3310, 3305], []⟩ (List.replicate 16 .initial) 3290
    = [false, true, false, true, false, false, true, false, false, true, false, false, false, false, false, false] := by decide +kernel

/-- 4.6, Worked summary. -/
theorem test_worked_summary :
    summaryOf { builtIn 0 with cellCount := 8, tempSet := 0x0F#8 }
      ([3291, 3302, 3287, 3310, 3310, 3295, 3287, 3299] ++ List.replicate 8 0 ++ [214, 231, 260, 198, 0, 0, 0, 0, 52, 2640])
      [⟨0, none, .good⟩, ⟨7, none, .held⟩, ⟨51, none, .expired⟩, ⟨0, none, .good⟩]
    = ⟨3287, 3310, 26381, 198, 231, 1, 52, 2640, true⟩ := by decide +kernel

/-- 2.1, Worked aggregation: station 14 contributes 206 against the 201 of the wire, reads 201 and has dropped out. -/
theorem test_worked_fire :
    readBits (sendField 8 (some 206) false (peersLine 206 201 8) ⟨0, false, false, none, [], []⟩).1.seen 0 8 = 201
    ∧ (sendField 8 (some 206) false (peersLine 206 201 8) ⟨0, false, false, none, [], []⟩).2 = true
    ∧ decodeFire 201 = (.preAlarm, 9) ∧ decodeFire 197 = (.preAlarm, 5) ∧ decodeFire 169 = (.alarm, 9)
    ∧ decodeFire 163 = (.alarm, 3) ∧ decodeFire 255 = (.normal, 31) := by decide +kernel

/-- The checks of R197 and R198, against values computed outside the model: a RACK_JOIN from 3 to all, a RESULT from 5 to 0. -/
theorem test_crc8 : crc8 (coveredBits 1 3 31 1 []) = 4#8 ∧ crc8 (coveredBits 1 5 0 18 [1#8, 5#8]) = 123#8 := by decide +kernel

/-- A notice's bits in the order of 12.2: CONTROL, source 3, broadcast, RACK_JOIN, LENGTH 0, CHECK 04h, turnaround, ACK. -/
theorem test_slot_bits :
    (slotWire 3 ⟨.control, 31, .rackJoin, [], .link, .waiting⟩).map (fun b => !b.peers)
    = [false, true, false, false, false, true, true, true, true, true, true, true, false, false, false, false, true,
        false, false, false, false, false, false, false, false, false, true, false, false, true, true] := by decide +kernel

/-! ### Example stations -/

/-- 16 bits, high byte first. -/
def w (v : Nat) : List Byte := [BitVec.ofNat 8 (v / 256), BitVec.ofNat 8 v]

/-- A profile's 44 bytes (12.4). -/
def exampleTable : List Byte := w 65336 ++ [0] ++ w 0 ++ [50] ++ w 100 ++ [100] ++ w 350 ++ [100] ++ w 450 ++ [50] ++ w 550 ++ [0]
def exampleProfile : List Byte := exampleTable ++ exampleTable ++ w 3450 ++ w 3650 ++ w 2800 ++ w 3000

/-- A valid image for address 5, written from 12.4; its CRC-16, 25404, was computed outside the model. -/
def exampleImage : List Byte :=
  [1, 0, 0, 0, 0x23, 0, 3, 255, 255, 14, 0x0F, 1] ++ (List.replicate 26 (w 16384 ++ w 0)).flatten
    ++ w 2800 ++ w 2950 ++ w 3550 ++ w 3650 ++ [50] ++ w 2000 ++ [15] ++ w 450 ++ [4, 180, 4, 50, 2, 90] ++ w 160
    ++ w 2000 ++ w 250 ++ [20, 10, 3, 2] ++ w 300 ++ [30, 0, 0, 3, 4, 5, 6, 0, 0, 1, 0, 0, 0] ++ List.replicate 15 0
    ++ (List.replicate 4 exampleProfile).flatten ++ List.replicate 158 0 ++ w 25404

/-- The image passes the checks of R189 at address 5; at address 4 its membership list is without the own address. -/
theorem test_image_length : exampleImage.length = 512 := by decide +kernel
/-- One bit of the CRC-16 over numbers, and a fold whose accumulator is a literal at every bit, so that the kernel can run it. -/
def crcNat (n : Nat) (b : Bool) : Nat := if decide (32768 ≤ n) != b then (2 * n % 65536) ^^^ 4129 else 2 * n % 65536
def crcFold : List Bool → Nat → Nat
  | [], n => n
  | b :: bs, n => Nat.casesOn (motive := fun _ => Nat) (crcNat n b) (crcFold bs 0) (fun m => crcFold bs (m + 1))

theorem crcFold_eq (bs : List Bool) : ∀ n : Nat, crcFold bs n = bs.foldl crcNat n := by
  induction bs with
  | nil => intro n; rfl
  | cons b bs ih =>
    intro n
    show Nat.casesOn (motive := fun _ => Nat) (crcNat n b) (crcFold bs 0) (fun m => crcFold bs (m + 1)) = bs.foldl crcNat (crcNat n b)
    cases crcNat n b <;> exact ih _

theorem crcBit_toNat (r : BitVec 16) (b : Bool) : (crcBit 0x1021#16 r b).toNat = crcNat r.toNat b := by
  unfold crcBit crcNat
  have h : r.msb = decide (32768 ≤ r.toNat) := by rw [BitVec.msb_eq_decide]
  rw [h]
  split <;> simp [BitVec.toNat_shiftLeft, Nat.shiftLeft_eq, Nat.mul_comm]

theorem crcBits_toNat (bs : List Bool) : ∀ r : BitVec 16, (crcBits 0x1021#16 r bs).toNat = bs.foldl crcNat r.toNat := by
  induction bs with
  | nil => intro r; rfl
  | cons b bs ih => intro r; show (crcBits 0x1021#16 (crcBit 0x1021#16 r b) bs).toNat = _; rw [ih, crcBit_toNat]; rfl

theorem test_image_crc : crc16 (exampleImage.take 510) = 25404#16 := by
  apply BitVec.eq_of_toNat_eq
  unfold crc16
  rw [crcBits_toNat, ← crcFold_eq]
  decide +kernel
theorem test_image_settings : settingsOk 5 (parseImage exampleImage) = true := by decide +kernel
theorem test_image_codes : codesOk exampleImage = true ∧ byteAt exampleImage 0 = 1 ∧ wordAt exampleImage 510 = 25404 := by decide +kernel
theorem test_image_valid : imageValid 5 exampleImage = true := by
  simp [imageValid, test_image_crc, test_image_settings, test_image_codes.1, test_image_codes.2.1, test_image_codes.2.2]
/-- A membership list without the own address fails check 4; a silent memory fails the version check. -/
theorem test_image_invalid : membersOk 4 { builtIn 5 with members := 0x23#32 } = false ∧ imageValid 5 [] = false := by
  constructor
  · decide
  · simp [imageValid, byteAt]

/-- A station of three roles at address 5, ACTIVE, its configuration valid. -/
def live : State :=
  { State.reset with
    cfg := { State.reset.cfg with
      address := 5, straps := ⟨true, true, true⟩, valid := true
      loaded := some { builtIn 5 with members := 0x23#32, commanders := [0, 3], rated := 180, pcsMax := 160, stageCount := 3, shedLevel := 2 } }
    link := { State.reset.link with state := .active, silence := none, phase := .sync, frameTime := some 10, frameTimer := some 10 }
    meas := { State.reset.meas with summary := { State.reset.meas.summary with valid := true, vbus := 2640 } }
    monitor := { State.reset.monitor with present := List.replicate 32 3, absent := List.replicate 32 0 }
    rcv := { State.reset.rcv with permit := true, gridPres := true } }

/-- GRID runs in a state; each input's filter time ends in 1 µs. -/
def gridAt (st : BreakerState) (aux : Bool) : State :=
  { live with
    grid := { live.grid with
      running := true, state := st, gridOk := true, gridOkAge := 1999, brkAux := aux, brkAuxAge := 4999, pcsReadyAge := 4999
      reconnect := some 300000000, permitCount := 5 } }

/-- CONT in a state; the filter time of CONT_AUX ends in 1 µs. -/
def contAt (st : ContState) (aux : Bool) : State :=
  { live with cont := { live.cont with state := st, auxClosed := aux, auxAge := 4999, joinRequested := true } }

/-- A notice of a kind from commander 0, directed to the station. -/
def notice (kind : Nat) (payload : List Byte) : InNotice := ⟨1, 0, 5, kind, payload, 0⟩

/-- The station with that notice at the head of its inbound queue. -/
def State.heard (s : State) (n : InNotice) : State := { s with mail := { s.mail with inbound := [n] } }

/-- A notice that waits in the outbound queue. -/
def waitingNotice : OutNotice := ⟨.data, 0, .status, [], .link, .waiting⟩

/-! ### One step each, by the manual's rules -/

/-- R173, R175: CLOSE_REQUEST to a ready station closes the breaker. -/
theorem test_close_request :
    ∃ t, step ((State.heard { gridAt .brkOpen false with grid := { (gridAt .brkOpen false).grid with pcsReady := true } }
      (notice 3 [])).setPending [.closeRequest 1]) = .next t ∧ t.grid.state = .closing ∧ t.outputs.brkClose = true ∧ t.mail.inbound = [] :=
  ⟨_, rfl, by decide +kernel⟩

/-- R118, R120: RACK_JOIN on a live bus goes to WAIT_MATCH. -/
theorem test_rack_join :
    ∃ t, step ((State.heard live (notice 1 [])).setPending [.rackJoin 1]) = .next t ∧ t.cont.state = .waitMatch
      ∧ t.cont.joinRequested = true := ⟨_, rfl, by decide +kernel⟩

/-- R56: a command from a source that is no commander is answered with NOT_PERMITTED. -/
theorem test_not_permitted :
    ∃ t, step ((State.heard live ⟨1, 7, 5, 1, [], 0⟩).setPending [.rackJoin 1]) = .next t
      ∧ t.mail.outbound = [⟨.control, 7, .result, [1, 2], .link, .waiting⟩] ∧ t.cont.joinRequested = false :=
  ⟨_, rfl, by decide +kernel⟩

/-- R123, R125: CONT_AUX closes at the instant of a failed close that was taken first: the rack is in OPENING; a moment later it is WELDED. -/
theorem test_failed_close_meets_contact :
    let s := (contAt .rackOpen false).setCont { (contAt .rackOpen false).cont with closeExpired := true, auxAge := 5000 };
    (∃ t, step (s.setPending [.contAuxChange 0 true]) = .next t ∧ t.cont.state = .opening ∧ t.cont.openTimer = some 0)
    ∧ ∃ t, step (s.setPending [.contAuxChange 1 true]) = .next t ∧ t.cont.state = .welded := by
  constructor <;> exact ⟨_, rfl, by decide +kernel⟩

/-- R169: a fall of GRID_OK that comes before the rise has stood 2 ms is dropped. -/
theorem test_short_pulse :
    ∃ t, step ((gridAt .closed true).setPending [.gridOkFall 0]) = .next t ∧ t.grid.state = .closed ∧ t.grid.gridOk = true :=
  ⟨_, rfl, by decide +kernel⟩

/-- R178 to R180: a loss of the grid trips a closed breaker, and the breaker's opening completes the trip with its record. -/
theorem test_grid_loss :
    (∃ t, step ((gridAt .closed true).setPending [.gridOkFall 1]) = .next t ∧ t.grid.state = .tripping ∧ t.outputs.brkTrip = true)
    ∧ ∃ t, step ({ gridAt .tripping true with
        grid := { (gridAt .tripping true).grid with tripCause := some .gridLoss } }.setPending [.brkAuxOpen 1]) = .next t
      ∧ t.retained.records = [⟨.gridLoss, 0, false⟩] ∧ t.grid.state = .brkOpen := by
  constructor <;> exact ⟨_, rfl, by decide +kernel⟩

/-- R5, R13, R44: a frame arrival meets the slot bits whose middle has come, and no others: slot bit 0 at 948 µs; and the slot is won at 1000 µs,
when its bit 6 is over, not at 999 µs. The operand gives more bits than have come, or fewer. -/
theorem test_arrival_meets_elapsed_bits (p : HandOverPins) :
    let s (time : Nat) := (live.setLink { live.link with phase := .slot, frameTime := some time, fields := some (readFields []) }).setMail
      { live.mail with outbound := [⟨.safety, 31, .fireReport, [4, 0, 0], .fire, .contending⟩] };
    let bits := List.replicate 95 (⟨false, true⟩ : LineBit);
    ((frameTail bits (s 947)).link.driveFaults = 0 ∧ (frameTail bits (s 948)).link.driveFaults = 1)
    ∧ (frameTail [] (s 999)).mail.outbound.length = 1 ∧ (frameTail [] (s 1000)).mail.outbound = []
    ∧ ∃ t, step ((s 999).setPending [.frameArrival 0 [] p]) = .next t := by
  refine ⟨by decide +kernel, by decide +kernel, by decide +kernel, _, rfl⟩

end Sys2Proof.Tests
end

