-- ==== Sys2Proof/Tests/Witnesses.lean ====
section
/-! SUPPORT. For each statement with hypotheses, a concrete station and operands that meet them, clause by clause, at the ends of the ranges.
Each theorem is named after its statement. -/

-- One theorem at a time: the kernel evaluations of many tests at once would each hold a thread with its stack.
set_option Elab.async false

namespace Sys2Proof.Tests

open Sys2Proof Sys2Proof.Machine

/-! ### Step, time, supply -/

theorem witness_StepRunsTheFrontCommand :
    (live.setPending [.lsyncRise 3]).pending = .lsyncRise 3 :: [] ∧ State.reset.pending = [] := ⟨rfl, rfl⟩

/-- Of the 74 entries of the area the first begins at 48 µs, the second at 112, the last at 880; the first ACK bit begins at 1184 µs. -/
theorem witness_TimePassesForRunningTimersAlone :
    (live.link.phase ≠ .fields ∧ live.link.phase ≠ .slot)
    ∧ (∀ p ∈ [(0, 47), (1, 48), (2, 112), (73, 879), (74, 880)],
      let s := live.setLink { live.link with phase := .fields, frameTime := some p.2 };
      s.link.state = .active ∧ s.link.phase = .fields ∧ s.link.frameTime = some p.2 ∧ p.1 ≤ s.fieldPlan.length
        ∧ (∀ j < p.1, 48 + 8 * ((s.fieldPlan.take j).map (·.1)).sum ≤ p.2 + 0)
        ∧ (p.1 < s.fieldPlan.length → p.2 + 0 < 48 + 8 * ((s.fieldPlan.take p.1).map (·.1)).sum))
    ∧ (let s := live.setLink { live.link with phase := .slot, frameTime := some 1183 };
      s.link.state = .active ∧ s.link.phase = .slot ∧ s.link.frameTime = some 1183 ∧ 944 + 8 * (30 + 8 * 0) ≤ 1183 + 1) := by
  decide +kernel

theorem witness_CommandsLeaveTheCommandQueue : ∃ t, exec (.supplyLoss) (live.setPending [.lsyncRise 3]) = .next t := ⟨_, rfl⟩

theorem witness_PinResetDiffersInTheRetainedDomainAlone : live.powered = true := rfl

/-- The station without supply. -/
def dark : State := { live with powered := false }

theorem witness_SupplyLossReleasesEveryOutput :
    dark.powered = false ∧ (∀ pins, Instr.pinReset pins ≠ .powerOnReset pins) ∧ (∀ pins q, Instr.pinReset pins ≠ .powerOnReset q)
    ∧ ∀ pins, Instr.pinReset pins ≠ .supplyLoss := by
  refine ⟨rfl, ?_, ?_, ?_⟩ <;> intros <;> intro h <;> cases h

/-- A station at address 5 before its configuration is read, with the GRID strap and some unacknowledged trips. -/
def booting (trips : Nat) : State :=
  { State.reset with
    cfg := { State.reset.cfg with address := 5, straps := ⟨true, true, false⟩ }
    retained := ⟨List.replicate trips ⟨.gridLoss, 0, false⟩, 0, false⟩ }

theorem witness_ConfigReadSettlesTheSettings :
    (booting 2).powered = true ∧ (booting 2).cfg.loaded = none ∧ (booting 2).breakerSafe ∧ (booting 3).breakerSafe
    ∧ (booting 2).cfg.straps.grid = true ∧ (booting 2).cfg.yielded.grid = false ∧ (booting 2).own = 5
    ∧ imageSound 5 exampleImage ∧ ¬ imageSound 5 []
    ∧ (booting 2).retained.lockoutRecords < 3 ∧ 3 ≤ (booting 3).retained.lockoutRecords ∧ (booting 2).grid.closeRequested = false := by
  refine ⟨rfl, rfl, ?_, ?_, rfl, rfl, rfl, (imageValid_iff 5 _).1 test_image_valid,
    fun h => Bool.noConfusion (test_image_invalid.2.symm.trans ((imageValid_iff 5 _).2 h)), by decide +kernel, by decide +kernel, rfl⟩ <;>
    (unfold State.breakerSafe State.breakerJustified; decide +kernel)

theorem witness_SilentMemoryGivesTheBuiltInSet :
    (booting 0).powered = true ∧ (booting 0).cfg.loaded = none ∧ (booting 0).own ≤ 30 := by decide +kernel

/-! ### Ticks -/

/-- ISOLATE has been read pressed once; an indicator tick is 1 µs away. -/
def pressed : State :=
  { live with indicator := ⟨9999, 99, true, false⟩, cont := { live.cont with isolateRead := true }, supp := { live.supp with watch := some 5 } }

/-- In LISTENING, the configuration read: one detector about to be active, an active one about to be open, a countdown held or running. -/
def sampling (held : Bool) : State :=
  let st := (pressed.setLink { pressed.link with state := .listening }).setSupp ⟨true, 5000000, held, none, some 5, false⟩
  st.setFire { st.fire with
    lines := [⟨.normal, some .active, false, false⟩, ⟨.active, some .openLoop, false, false⟩, .initial, .initial, .initial, .initial] }

/-- Loop resistances at the ends of the bands. -/
def loops (fl0 fl1 : Nat) : Loops := ⟨fl0, fl1, 9999, 3200, 10000, 499⟩

theorem witness_IndicatorTickFormsAlert :
    (pressed.powered = true ∧ 10000 ≤ pressed.indicator.tickTime + 1 ∧ pressed.cont.isolateRead = true
      ∧ pressed.cont.isolateLevel = false ∧ pressed.link.state = .active)
    ∧ (∀ held, let s := sampling held;
      s.powered = true ∧ s.link.state ≠ .active ∧ s.readDone = true ∧ s.holds .supp = true ∧ s.supp.releasePending = true
        ∧ s.retained.releasedLatch = false)
    ∧ (booting 0).readDone = false
    ∧ (let s := { pressed with
        monitor := { live.monitor with absent := List.replicate 32 100 }, supp := { live.supp with releasePending := true, held := true } };
      s.link.state = .active ∧ s.peerLoss = true ∧ s.holds .supp = true ∧ s.readDone = true ∧ s.retained.releasedLatch = false
        ∧ s.supp.releasePending = true)
    ∧ live.peerLoss = false := by decide +kernel

/-- The read of ISOLATE is a press, a release or neither, in every state of the rack. -/
theorem witness_IndicatorTickFormsAlert_isolate :
    ∀ st ∈ [ContState.rackOpen, .waitMatch, .claiming, .closing, .closed, .opening, .welded, .lockout], ∀ aux, ∀ read, ∀ level,
      let s := (contAt st aux).setCont { (contAt st aux).cont with isolateRead := read, isolateLevel := level, holdTicks := some 399 };
      s.powered = true ∧ s.link.state = .active ∧ s.contactorSafe ∧ (s.elapse 1).cont.state = st ∧ (s.elapse 1).cont.auxClosed = aux
        ∧ (s.elapse 1).cont.isolateRead = read ∧ (s.elapse 1).cont.isolateLevel = level := by
  simp only [State.contactorSafe, State.mayJoin_iff]; decide +kernel

/-- A sample in LISTENING: the second equal band is taken, 499 Ω is SHORT, 3200 Ω is NORMAL; one active detector gives PRE_ALARM, two ALARM. -/
theorem test_tick_samples_lines :
    ∃ t, exec (.indicatorTick 1 ⟨true, loops 3199 10000, false⟩) (sampling false) = .next t
      ∧ (t.fire.lines.map (·.filtered)) = [.active, .openLoop, .normal, .normal, .normal, .normal]
      ∧ (t.fire.lines.map (·.prev)) = [some .active, some .openLoop, some .normal, some .normal, some .openLoop, some .short]
      ∧ t.fire.localStage = .preAlarm := ⟨_, rfl, by decide +kernel⟩

theorem witness_UptimeTickAdvancesTheSeconds : pressed.powered = true ∧ pressed.indicator.uptimeDue = true := ⟨rfl, rfl⟩

/-! ### LINK: LSYNC and the frame timer -/

/-- The station with its link changed. -/
def linked (f : Link → Link) : State := live.setLink (f live.link)

theorem witness_LsyncLevelsDriveTheFramePhases :
    (let s := linked fun l => { l with lsyncLow := true, lowTime := some 1000 };
      s.powered = true ∧ s.link.state ≠ .fault ∧ s.link.lsyncLow = true ∧ s.link.lowTime = some 1000 ∧ 1000 < 1000 + 1 ∧ 1000 + 0 ≤ 1000)
    ∧ (let s := linked fun l => { l with pulse := some 39 };
      s.link.pulse = some 39 ∧ 40 ≤ 39 + 1)
    ∧ (let s := linked fun l => { l with frameTime := some 47 };
      s.link.state = .active ∧ s.link.phase = .sync ∧ s.link.frameTime = some 47 ∧ 48 ≤ 47 + 1) := by decide +kernel

/-- At the very end of its 10 ms + 4 µs × 5, with an own pulse before it that waits for its echo or not; at the end of a pulse's 2 µs, with two
or three counts. -/
theorem witness_FrameTimerExpiryDrivesThePulse :
    (∀ low, ∀ wait, let s := linked fun l => { l with frameTimer := some 10019, lsyncLow := low, lateMute := true, echoWait := wait };
      s.powered = true ∧ s.link.state = .active ∧ s.link.frameTimer = some 10019 ∧ 10000 + 4 * s.own ≤ 10019 + 1 ∧ s.link.lsyncLow = low
        ∧ ∃ b, (s.elapse 1).pulseCounted b)
    ∧ (∀ faults ∈ [1, 2], let s := linked fun l => { l with frameTimer := some 1, echoWait := true, driveFaults := faults };
      s.link.frameTimer = some 1 ∧ (s.elapse 1).link.pulseDue ∧ 1 + 1 < 10000 + 4 * s.own ∧ (s.elapse 1).link.faultsDue = faults + 1
        ∧ (faults + 1 < 3 ∨ 3 ≤ faults + 1))
    ∧ ¬ ((linked fun l => { l with frameTimer := some 0, echoWait := true }).elapse 1).link.pulseDue := by
  simp only [State.pulseCounted, Link.pulseDue_iff]
  refine ⟨fun low wait => ⟨rfl, rfl, rfl, by decide +revert, rfl, ?_⟩, by decide +kernel, by decide +kernel⟩
  cases low <;> cases wait
  all_goals first
    | exact ⟨_, .inl ⟨by decide +kernel, rfl⟩⟩
    | exact ⟨_, .inr ⟨by decide +kernel, by decide +kernel, rfl⟩⟩

/-- R14: a third unechoed expiry enters FAULT at the end of the 2 µs, and its pulse is driven until then. -/
theorem test_third_unechoed_expiry :
    (∃ t, exec (.frameTimerExpiry 1 .unechoed) (linked fun l => { l with frameTimer := some 10019, driveFaults := 2 }) = .next t
      ∧ t.link.lsyncDriven = true ∧ t.link.state = .active ∧ t.link.driveFaults = 2)
    ∧ ∃ t, exec (.frameTimerExpiry 2 .unechoed)
        (linked fun l => { l with frameTimer := some 0, pulse := some 0, lsyncDriven := true, echoWait := true, driveFaults := 2 }) = .next t
      ∧ t.link.state = .fault ∧ t.link.faultReason = some .driveFault ∧ t.link.lsyncDriven = false := by
  constructor <;> exact ⟨_, rfl, by decide +kernel⟩

theorem witness_EntryToFaultReleasesTheStation :
    (∀ st ∈ [ContState.rackOpen, .waitMatch, .claiming, .closing, .closed, .opening, .welded, .lockout], ∀ aux,
      (∃ t, t = enterFault .driveFault (contAt st aux)) ∧ (contAt st aux).cont.state = st ∧ (contAt st aux).cont.auxClosed = aux
        ∧ (contAt st aux).grid.running = false)
    ∧ ∀ st ∈ [BreakerState.brkOpen, .reconnectWait, .closing, .closed, .tripping, .breakerFault, .recloseLockout], ∀ aux,
      (∃ t, t = enterFault .driveFault (gridAt st aux)) ∧ (gridAt st aux).grid.state = st ∧ (gridAt st aux).grid.brkAux = aux
        ∧ (gridAt st aux).grid.running = true :=
  ⟨fun st hs aux => ⟨⟨_, rfl⟩, by revert st aux; decide +kernel⟩, fun st hs aux => ⟨⟨_, rfl⟩, by revert st aux; decide +kernel⟩⟩

/-- R125, R128, R185: a closed rack and a closed breaker at a link fault; a breaker that already reads open has tripped at once. -/
theorem test_fault_trips :
    (let t := enterFault .driveFault { gridAt .closed true with cont := (contAt .closed true).cont };
      t.cont.state = .opening ∧ t.cont.openTimer = some 0 ∧ t.grid.state = .tripping ∧ t.grid.tripCause = some .permitLoss
        ∧ t.outputs.brkTrip = true)
    ∧ (enterFault .addressClash (gridAt .closed false)).retained.records = [⟨.permitLoss, 0, false⟩]
    ∧ (enterFault .addressClash (gridAt .closed false)).grid.state = .brkOpen := by decide +kernel

/-- In LISTENING, with room for three claims. -/
def listening (a : BitVec 5) : State :=
  { live with
    cfg := { live.cfg with address := a }
    link := { live.link with state := .listening, silence := some 29999, phase := .none }
    mail := { live.mail with outbound := List.replicate 5 waitingNotice } }

theorem witness_SilenceLimitMakesTheStationActive :
    let s := listening 30;
    s.powered = true ∧ s.link.state = .listening ∧ s.readDone = true ∧ s.own ≤ 30 ∧ s.link.silence = some 29999 ∧ 30000 ≤ 29999 + 1
      ∧ s.mail.outbound.length ≤ 5 := by decide +kernel

theorem witness_ListeningFallRestartsOrActivates :
    ((booting 0).powered = true ∧ (booting 0).link.state = .listening ∧ (booting 0).readDone = false)
    ∧ ((listening 31).link.state = .listening ∧ (listening 31).own = 31)
    ∧ ((listening 30).readDone = true ∧ (listening 30).own ≤ 30)
    ∧ (let s := (listening 30).setMail { live.mail with outbound := List.replicate 2 waitingNotice };
      s.mail.outbound.length ≤ 2 ∧ ∀ r, s.holds r = true) := by
  refine ⟨by decide +kernel, by decide +kernel, by decide +kernel, by decide +kernel, fun r => ?_⟩
  cases r <;> decide +kernel

/-! ### LINK: hand-overs -/

/-- Readings of a frame that station 5 alone has driven. -/
def alone : FieldReadings := ⟨0x20#32, 0, true, true, true, true, 229, 255, 255, 15⟩

/-- In the slot, a notice contending or withdrawn meanwhile, the field area read. -/
def slotArrival (m : OutNotice) : State :=
  (live.setLink { live.link with phase := .slot, frameTime := some 1000, fields := some alone }).setMail
    { live.mail with outbound := [m, waitingNotice] }

theorem witness_FrameArrivalHandsTheFrameOver :
    (live.powered = true ∧ live.link.state = .active ∧ (live.elapse 1).frameEnded [] none (live.elapse 1) ∧ live.link.phase ≠ .void)
    ∧ (∀ p ∈ [Phase.none, .void], let s := linked fun l => { l with phase := p };
      s.link.missTaken = false ∧ (s.elapse 1).frameEnded [] none (s.elapse 1))
    ∧ (let s := (gridAt .closed true).setLink { live.link with phase := .idle, fields := some alone };
      s.powered = true ∧ s.link.state = .active ∧ (s.elapse 1).frameEnded [] (some alone) (s.elapse 1) ∧ s.grid.running = true
        ∧ s.config.members.getLsbD 0 = true ∧ 0 ≠ s.own)
    ∧ (∀ n ∈ [50, 51, 500, 2000], let s := linked fun l => { l with phase := .fields, frameTime := some n };
      ∃ e, (s.elapse 1).frameEnded (List.replicate 112 quietBit) none e) := by
  refine ⟨⟨rfl, rfl, .inl ⟨.inr (.inl rfl), rfl, rfl⟩, by decide⟩, fun p hp => ?_,
    ⟨rfl, rfl, .inr (.inl ⟨rfl, rfl, rfl, rfl⟩), rfl, by decide +kernel, by decide +kernel⟩,
    fun n hn => ⟨_, .inr (.inr (.inl ⟨rfl, rfl, _, _, (Link.lineMet_iff ..).2 rfl, rfl, by revert n; decide +kernel, rfl⟩))⟩⟩
  simp only [List.mem_cons, List.not_mem_nil, or_false] at hp
  rcases hp with rfl | rfl
  · exact ⟨rfl, .inl ⟨.inl rfl, rfl, rfl⟩⟩
  · exact ⟨rfl, .inl ⟨.inr (.inr rfl), rfl, rfl⟩⟩

/-- A slot abandoned while a notice contends that was withdrawn and loses, and one whose own notice has won, of each kind of outcome; one
abandoned 1 µs before the end of slot bit 6, all of its seven bits sampled, which nobody has won; and one whose slot bit 6 was taken before. -/
theorem witness_FrameArrivalHandsTheFrameOver_slot :
    (let s := slotArrival { waitingNotice with mark := .withdrawn };
      (slotCut [⟨true, false⟩] (s.elapse 1)).sent = none ∧ ∃ e, (s.elapse 1).frameEnded [⟨true, false⟩] (some alone) e)
    ∧ (∀ kind ∈ [Kind.status, .snapshotSegment, .deadBusClaim], let m : OutNotice := ⟨.data, 0, kind, [], .link, .contending⟩;
      let s := slotArrival m; (slotCut [] (s.elapse 1)).sent = some m ∧ ∃ e, (s.elapse 1).frameEnded [] (some alone) e)
    ∧ (let m : OutNotice := ⟨.data, 0, .status, [], .link, .contending⟩;
      let s := (slotArrival m).setLink { (slotArrival m).link with frameTime := some 998 };
      (slotCut [] (s.elapse 1)).sent = none ∧ (runSlot (s.elapse 1) ((s.elapse 1).link.lineSoFar 944 95 [])).acc.seen.length = 7
        ∧ ∃ e, (s.elapse 1).frameEnded [] (some alone) e)
    ∧ (let s := (slotArrival waitingNotice).setLink
        { (slotArrival waitingNotice).link with arb := some ⟨List.replicate 7 true, none⟩, slotDrive := List.replicate 7 false };
      s.link.arb ≠ none ∧ ∃ e, (s.elapse 1).frameEnded [] (some alone) e) := by
  have ended : ∀ (s : State) (ldata : List LineBit), s.link.phase = .slot → s.link.fields = some alone →
      (slotCut ldata s).acc.stop = none → ∃ e, s.frameEnded ldata (some alone) e := by
    intro s ldata hp hf hs
    have hq := (slotTake_queue (slotCut ldata s) s).1
    have hm := (Link.lineMet_iff s.link 944 95 ldata _).2 rfl
    obtain ⟨hs, hw⟩ : (runSlot s (s.link.lineSoFar 944 95 ldata)).acc.stop = none
        ∧ (s.link.bitSixOver ∧ (slotCut ldata s).sent = (runSlot s (s.link.lineSoFar 944 95 ldata)).sent
          ∨ ¬ s.link.bitSixOver ∧ (slotCut ldata s).sent = none) := by
      rcases slotCut_eq ldata s with ⟨h, he⟩ | ⟨h, he⟩ <;> rw [he] at hs ⊢
      · exact ⟨hs, .inl ⟨h, rfl⟩⟩
      · exact ⟨hs, .inr ⟨h, rfl⟩⟩
    cases hr : (slotCut ldata s).sent with
    | none => exact ⟨_, .inr (.inr (.inr ⟨hp, rfl, hf, _, _, _, _, _, hm, rfl, hs, hw, rfl, hq, .inl ⟨hr, rfl⟩⟩))⟩
    | some n =>
      by_cases hk : n.kind ≠ .snapshotSegment ∧ n.kind ≠ .deadBusClaim
      · exact ⟨_, .inr (.inr (.inr ⟨hp, rfl, hf, _, _, _, _, _, hm, rfl, hs, hw, rfl, hq, .inr ⟨n, hr, .inl ⟨hk.1, hk.2, rfl⟩⟩⟩))⟩
      · exact ⟨_, .inr (.inr (.inr ⟨hp, rfl, hf, _, _, _, _, _, hm, rfl, hs, hw, rfl, hq, .inr ⟨n, hr, .inr ⟨by
          by_cases h : n.kind = .snapshotSegment
          · exact .inl h
          · exact .inr (Classical.byContradiction fun h' => hk ⟨h, h'⟩), rfl⟩⟩⟩))⟩
  refine ⟨⟨by decide +kernel, ended _ _ rfl rfl (by decide +kernel)⟩, fun kind hk => ⟨?_, ended _ _ rfl rfl ?_⟩,
    ⟨by decide +kernel, by decide +kernel, ended _ _ rfl rfl (by decide +kernel)⟩, by decide, ended _ _ rfl rfl (by decide +kernel)⟩ <;> revert kind <;> decide +kernel

/-- An own pulse waits for its echo at the frame arrival: counted at 2 µs, not at 1 µs. A pulse that met a low line: at an age of 2 µs at the end
of this command it belongs to the new frame, at 3 µs to the old one. -/
theorem witness_FrameArrivalHandsTheFrameOver_pulse :
    (∀ n ∈ [0, 1], ∃ g, ((linked fun l => { l with echoWait := true, frameTimer := some n, driveFaults := 1 }).elapse 1).pulseCounted g)
    ∧ (∀ p ∈ [1, 2], let l := ((linked fun l => { l with lateMute := true, pulse := some p }).elapse 1).link;
      (decide (p = 1) = true ↔ l.freshMute)) := by
  refine ⟨fun n hn => ?_, fun p hp => ?_⟩
  · simp only [List.mem_cons, List.not_mem_nil, or_false] at hn
    simp only [State.pulseCounted, Link.pulseDue_iff]
    rcases hn with rfl | rfl
    · exact ⟨_, .inl ⟨by decide +kernel, rfl⟩⟩
    · exact ⟨_, .inr ⟨by decide +kernel, by decide +kernel, rfl⟩⟩
  · simp only [List.mem_cons, List.not_mem_nil, or_false] at hp
    unfold Link.freshMute
    rcases hp with rfl | rfl
    · exact ⟨fun _ => ⟨rfl, 2, rfl, by decide⟩, fun _ => rfl⟩
    · exact ⟨fun h => absurd h (by decide), fun ⟨_, q, hq, hl⟩ => by cases hq; exact absurd hl (by decide)⟩

/-- A third drive fault in the bits since the last command, of the field area or of the slot; a third pulse that was not echoed. -/
theorem witness_FrameArrivalHandsTheFrameOver_fault :
    (let s := linked fun l => { l with phase := .fields, frameTime := some 943, driveFaults := 2 };
      s.link.state = .active ∧ s.link.phase = .fields
        ∧ ∃ bits, (s.elapse 1).link.lineMet 48 112 (List.replicate 112 ⟨false, true⟩) bits
          ∧ ((s.elapse 1).runFields bits).stop = some .driveFault)
    ∧ (let s := (slotArrival { waitingNotice with mark := .contending }).setLink
        { (slotArrival waitingNotice).link with driveFaults := 2 };
      s.link.phase = .slot ∧ ∃ bits, (s.elapse 1).link.lineMet 944 95 (List.replicate 8 ⟨false, true⟩) bits
        ∧ (runSlot (s.elapse 1) bits).acc.stop = some .driveFault)
    ∧ (let s := linked fun l => { l with echoWait := true, frameTimer := some 1, driveFaults := 2 };
      ∃ e frame, (s.elapse 1).frameEnded [] frame e ∧ e.link.pulseDue ∧ 3 ≤ e.link.faultsDue) := by
  simp only [Link.lineMet_iff, exists_eq_left]
  refine ⟨by decide +kernel, by decide +kernel, _, none, .inl ⟨.inr (.inl rfl), rfl, rfl⟩, ?_, by decide +kernel⟩
  rw [Link.pulseDue_iff]; decide +kernel

theorem witness_MissingFrameEventHandsOverAMissingFrame :
    (let s := (gridAt .closed true).setLink { live.link with lineStuck := true, lsyncLow := true, missTimer := some 9999 };
      s.powered = true ∧ s.link.state = .active ∧ s.link.lineStuck = true ∧ s.link.lsyncLow = true ∧ s.link.missTimer = some 9999
        ∧ 10000 ≤ 9999 + 1 ∧ s.grid.running = true)
    ∧ (∀ wait, let s := linked fun l => { l with phase := .void, missTaken := true, echoWait := wait };
      s.powered = true ∧ s.link.state = .active ∧ s.link.phase = .void ∧ s.link.missTaken = true ∧ ∃ g, (s.elapse 1).pulseCounted g) := by
  refine ⟨by decide +kernel, fun wait => ⟨rfl, rfl, rfl, rfl, ?_⟩⟩
  simp only [State.pulseCounted, Link.pulseDue_iff]
  cases wait
  · exact ⟨_, .inl ⟨by decide +kernel, rfl⟩⟩
  · exact ⟨_, .inr ⟨by decide +kernel, by decide +kernel, rfl⟩⟩

/-- The counter value wraps: the reading of the largest value is paired with that of 0. -/
theorem witness_RecordFiltersPairConsecutiveFrames :
    (let p : PrevReadings := ⟨.normal, false, true, 0xFFFFFFFF#32⟩;
      p.counter + 1 = 0#32 ∧ p.stage = (decodeFire alone.fire).1 ∧ p.gridPres = !alone.gridPres ∧ p.degraded = alone.degraded)
    ∧ (let p : PrevReadings := ⟨.alarm, true, false, 6#32⟩;
      p.counter + 1 = 7#32 ∧ p.stage ≠ (decodeFire alone.fire).1 ∧ p.gridPres = alone.gridPres ∧ p.degraded = !alone.degraded)
    ∧ State.reset.rcv.prev = none ∧ (6#32 + 1 : BitVec 32) ≠ 8#32 := by decide +kernel

/-! ### LINK: the field area -/

/-- 1 µs before the end of the field area. -/
def inFields (faults : Nat) : State :=
  linked fun l => { l with phase := .fields, frameTime := some 943, driveFaults := faults }

/-- The run that the statement names. -/
def areaRun (s : State) (dt : Nat) (ldata : List LineBit) : BitAcc :=
  sendFields (s.fixedAfter dt) (ldata.take 112 ++ List.replicate (112 - ldata.length) quietBit)
    ⟨s.link.driveFaults, s.link.frameFaulted, s.link.droveDominant, none, [], []⟩

theorem witness_FieldAreaEndKeepsTheReadings :
    (inFields 0).powered = true ∧ (inFields 0).link.state = .active ∧ (inFields 0).link.phase = .fields
    ∧ (inFields 0).link.frameTime = some 943 ∧ 944 ≤ 943 + 1 ∧ ¬ 944 ≤ 943 + 0
    ∧ (areaRun (inFields 0) 1 []).stop = none ∧ (areaRun (inFields 0) 0 []).stop = none
    -- the own PRESENCE bit, number 34 of the area, is the first one driven dominant: its sample is taken at 324 µs
    ∧ (areaRun (inFields 2) 1 (List.replicate 112 ⟨false, true⟩)).stop = some .driveFault
    ∧ 44 + 8 * (areaRun (inFields 2) 1 (List.replicate 112 ⟨false, true⟩)).seen.length = 324
    ∧ ({ (inFields 0) with mail := { live.mail with outbound := [waitingNotice] } }).mail.outbound = waitingNotice :: []
    ∧ live.mail.holdOff = 2 ∧ waitingNotice.priority ≠ .safety ∧ (inFields 0).mail.outbound = [] := by decide +kernel

/-- R12, R13: the third fault of a run of frames is FAULT from the middle of its bit on, before the area has ended. -/
theorem test_fault_at_its_bit :
    let s := linked fun l => { l with phase := .fields, frameTime := some 323, driveFaults := 2 };
    (∃ t, exec (.fieldAreaEnd 0 (List.replicate 112 ⟨false, true⟩)) s = .next t ∧ t.link.state = .active)
    ∧ ∃ t, exec (.fieldAreaEnd 1 (List.replicate 112 ⟨false, true⟩)) s = .next t ∧ t.link.state = .fault := by
  constructor <;> exact ⟨_, rfl, by decide +kernel⟩

/-- R5, R19: a zone level that changes after DEMAND has begun, at 848 µs, leaves the entry of this frame as it was. -/
theorem test_entry_fixed_at_its_start :
    let s := ((linked fun l => { l with phase := .fields, frameTime := some 847 }).elapse 1);
    let late := s.setTherm { s.therm with published := 9 };
    let early := (linked fun l => { l with phase := .fields, frameTime := some 847 }).setTherm { live.therm with published := 9 };
    (readFields (late.runFields (padLine 112 [])).seen).demand = 15
    ∧ (readFields (((early.elapse 1).elapse 96).runFields (padLine 112 [])).seen).demand = 6 := by decide +kernel

theorem witness_LoneStationReadsItsOwnContributions :
    let s := { (contAt .closed true) with
      cfg := { live.cfg with address := 30 }, alw := { live.alw with published := ⟨254, 254⟩ }, therm := { live.therm with published := 15 } }
    let u := s.setLink { s.link with fixed := s.fieldPlan }
    u.link.fixed = u.fieldPlan ∧ s.own ≤ 30 ∧ s.alw.published.chg ≤ 254 ∧ s.alw.published.dis ≤ 254 ∧ s.therm.published ≤ 15 := by decide +kernel

theorem witness_FieldCarriesTheSmallestValue :
    255 < 2 ^ 8 ∧ 254 < 2 ^ 8 ∧ (⟨2, true, false, none, [], [true]⟩ : BitAcc).stop = none := by decide

theorem witness_LostDominantBitCountsOncePerFrame :
    (∀ faults ∈ [1, 2], ∀ marked, (⟨faults, marked, false, none, [], []⟩ : BitAcc).stop = none)
    ∧ (⟨false, true⟩ : LineBit).peers = false ∧ (⟨false, true⟩ : LineBit).broken = true ∧ 1 + 1 < 3 ∧ 3 ≤ 2 + 1 := by decide

/-! ### LINK: the notice slot -/

/-- In the slot phase, some µs after the fall, with notices in the queues. -/
def inSlot (time : Nat) (out : List OutNotice) (held : Nat) : State :=
  (linked fun l => { l with phase := .slot, frameTime := some time }).setMail
    { live.mail with outbound := out, inbound := List.replicate held (notice 9 []) }

theorem witness_IdleSlotEndsAfterTheSourceBits :
    (let s := inSlot 999 [waitingNotice] 0;
      s.powered = true ∧ s.link.state = .active ∧ s.link.phase = .slot ∧ s.link.frameTime = some 999 ∧ s.link.arb = none
        ∧ 1000 ≤ 999 + 1 ∧ 999 + 0 < 1000
        ∧ (runSlot (s.elapse 0) (([] : List LineBit).take 95 ++ List.replicate 95 quietBit)).acc.stop = none
        ∧ ∀ m ∈ s.mail.outbound, m.mark = .waiting)
    ∧ ((inSlot 1111 [] 0).link.frameTime = some 1111 ∧ 1112 ≤ 1111 + 1 ∧ 30 ≤ 30 ∧ 9 ≤ 9 ∧ 9 ≤ 15 ∧ 15 ≤ 15) := by decide +kernel

/-- A slot taken before its end, before the end of slot bit 6 and after it, is still the slot when the rest is given. -/
theorem witness_IdleSlotEndsAfterTheSourceBits_early :
    ∀ time ∈ [999, 1000, 1183], let s := inSlot time [{ waitingNotice with mark := .contending }, waitingNotice] 0;
      (List.replicate 7 quietBit).take 7 = (List.replicate 31 quietBit).take 7
        ∧ ∃ t, exec (.noticeSlotEnd 0 (List.replicate 7 quietBit)) s = .next t ∧ t.link.phase = .slot
          ∧ (t.link.arb = none ↔ time = 999) := by
  intro time h
  refine ⟨by decide, _, rfl, ?_⟩
  revert time; decide +kernel

/-- A notice of some length that another station sends; room at its ACK bit as the queue stands. -/
def sent (dest len : Nat) : OutNotice := ⟨.safety, dest, .result, List.replicate len 0xFF#8, .link, .waiting⟩

/-- R44, R51, R53: from the end of slot bit 6 on the notice sent takes no place in the queue, and a loser that is withdrawn none either. -/
theorem test_queue_after_bit_6 :
    let s := inSlot 999 (⟨.control, 31, .deadBusClaim, [], .cont 4, .contending⟩ :: List.replicate 7 waitingNotice) 0;
    (∃ t, exec (.noticeSlotEnd 1 []) s = .next t ∧ t.mail.outbound = List.replicate 7 waitingNotice ∧ t.mail.holdOff = 0
      ∧ t.link.phase = .slot)
    ∧ ∃ t, exec (.noticeSlotEnd 1 (slotWire 30 (sent 5 0))) s = .next t ∧ t.mail.outbound.length = 8 ∧ t.link.phase = .slot
      ∧ (withdrawClaim t).mail.outbound = List.replicate 7 waitingNotice := by
  constructor <;> exact ⟨_, rfl, by decide +kernel⟩

theorem witness_SentNoticeIsTakenByItsReceivers :
    (∀ held ∈ [3, 4], ∀ dest ∈ [5, 31], ∀ len ∈ [0, 8], ∀ mark ∈ [Mark.waiting, .contending, .withdrawn],
      let s := inSlot (944 + 8 * (31 + 8 * len)) [{ waitingNotice with mark := mark }, waitingNotice] held;
      let m := sent dest len;
      s.powered = true ∧ s.link.state = .active ∧ s.link.phase = .slot ∧ s.link.arb = none
        ∧ s.link.frameTime = some (944 + 8 * (31 + 8 * len))
        ∧ 944 + 8 * (31 + 8 * m.payload.length) ≤ 944 + 8 * (31 + 8 * len) + 0 ∧ (mark = .waiting → ∀ x ∈ s.mail.outbound, x.mark = .waiting)
        ∧ s.own ≤ 30 ∧ 30 ≤ 30 ∧ 30 ≠ s.own ∧ m.payload.length ≤ 8 ∧ m.dest ≤ 31 ∧ (m.dest = s.own ∨ m.dest = 31)
        ∧ ((s.roomAfter 0).getD m.payload.length false = true → s.mail.inbound.length < 4)
        ∧ (s.roomAfter 0).getD m.payload.length false = decide (held < 4)
        ∧ m.priority.code * 32 + 30 < waitingNotice.priority.code * 32 + s.own)
    ∧ (∀ time ∈ [1000, 1191], ∀ mark ∈ [Mark.contending, .withdrawn],
      let s := inSlot time [{ waitingNotice with mark := mark }, waitingNotice] 0;
      s.link.frameTime = some time ∧ 1000 ≤ time + 0 ∧ time + 0 < 944 + 8 * (31 + 8 * (sent 5 0).payload.length)
        ∧ s.mail.outbound = { waitingNotice with mark := mark } :: [waitingNotice]
        ∧ (sent 5 0).priority.code * 32 + 30 < waitingNotice.priority.code * 32 + s.own)
    ∧ ((sent 7 8).dest ≠ live.own ∧ (sent 7 8).dest ≠ 31)
    ∧ 0 ≠ (crc8 (coveredBits (sent 5 0).priority.code 30 5 (sent 5 0).kind.code (sent 5 0).payload)).toNat := by decide +kernel

/-- The room at the ACK bit is the one at its start, 240 µs into the slot for LENGTH 0: a place that comes free later does not count (R47). -/
theorem test_room_at_ack_bit :
    ((inSlot 1183 [] 4).roomAfter 0 = [] ∧ (inSlot 1183 [] 4).roomAfter 1 = [false] ∧ (inSlot 1183 [] 3).roomAfter 1 = [true])
    ∧ (let s := (inSlot 1184 [] 3).setLink { (inSlot 1184 [] 3).link with slotRoom := [false] };
      ∃ t, exec (.noticeSlotEnd 8 (slotWire 30 (sent 5 0))) s = .next t ∧ t.mail.inbound.length = 3 ∧ t.mail.inboundOverrun = false) :=
  ⟨by decide +kernel, _, rfl, by decide +kernel⟩

theorem witness_LoneCandidateWinsItsSlot :
    (∀ dest ∈ [0, 31], ∀ p ∈ [Priority.safety, .bulk], ∀ mark ∈ [Mark.contending, .withdrawn],
      let m : OutNotice := ⟨p, dest, .tripReport, List.replicate 8 0xFF#8, .grid, mark⟩;
      let s := inSlot 1704 [m, waitingNotice] 0;
      s.powered = true ∧ s.link.state = .active ∧ s.link.phase = .slot ∧ s.link.frameTime = some 1704 ∧ s.link.arb = none
        ∧ 944 + 8 * (31 + 8 * m.payload.length) ≤ 1704 + 0 ∧ s.own ≤ 30 ∧ s.mail.outbound = m :: [waitingNotice]
        ∧ (m.mark = .contending ∨ m.mark = .withdrawn) ∧ (∀ x ∈ [waitingNotice], x.mark = .waiting) ∧ m.payload.length ≤ 8 ∧ m.dest ≤ 31
        ∧ m.kind ≠ .snapshotSegment ∧ m.kind ≠ .deadBusClaim)
    -- a segment and a claim at the very end of their slots
    ∧ (∀ m ∈ [(⟨.bulk, 0, .snapshotSegment, List.replicate 8 0, .link, .contending⟩ : OutNotice),
        ⟨.control, 31, .deadBusClaim, [], .cont 4, .withdrawn⟩],
      let s := inSlot (944 + 8 * (31 + 8 * m.payload.length)) [m] 0;
      s.powered = true ∧ s.link.state = .active ∧ s.link.phase = .slot ∧ s.link.arb = none ∧ s.mail.outbound = m :: []
        ∧ (m.mark = .contending ∨ m.mark = .withdrawn) ∧ m.payload.length ≤ 8 ∧ m.dest ≤ 31
        ∧ s.link.frameTime = some (944 + 8 * (31 + 8 * m.payload.length)))
    -- the first and the last bit from DEST to CHECK that a broadcast CLOSE_REQUEST of station 5 drives recessive
    ∧ (let m : OutNotice := ⟨.control, 31, .closeRequest, [], .link, .contending⟩;
      (noticeBits 5 m)[0]? = some true ∧ (noticeBits 5 m)[21]? = some true ∧ (noticeBits 5 m)[22]? = none
        ∧ 944 + 8 * (7 + 21) + 4 ≤ 1172 ∧ ¬ 944 + 8 * (7 + 21) + 4 ≤ 1171)
    ∧ (∀ time ∈ [999, 1000, 1171], (inSlot time [] 0).link.frameTime = some time) := by decide +kernel

/-- R45: a winner that samples the first bit of DEST dominant, which it drives recessive, is in FAULT at that bit's middle. -/
theorem test_address_clash :
    let s := inSlot 1003 [⟨.control, 31, .rackLeave, [], .link, .contending⟩] 1;
    (∃ t, exec (.noticeSlotEnd 0 (List.replicate 7 quietBit ++ [⟨true, false⟩])) s = .next t ∧ t.link.state = .active)
    ∧ ∃ t, exec (.noticeSlotEnd 1 (List.replicate 7 quietBit ++ [⟨true, false⟩])) s = .next t
      ∧ t.link.faultReason = some .addressClash ∧ t.mail.inbound = [] := by
  constructor <;> exact ⟨_, rfl, by decide +kernel⟩

/-- A role claim of CFG and a claim of CONT, waiting. -/
def roleNotice : OutNotice := ⟨.control, 31, .roleClaim, [2, 0], .cfg, .waiting⟩
def busNotice (mark : Mark) : OutNotice := ⟨.control, 31, .deadBusClaim, [], .cont 4, mark⟩

theorem witness_SegmentOutcomeGoesOnOrEndsTheReadout :
    (∀ k ∈ [7, 8],
      let s := live.setMail { live.mail with readout := some ⟨0, k⟩, outbound := List.replicate 7 waitingNotice };
      let m : OutNotice := ⟨.bulk, 0, .snapshotSegment, [], .link, .contending⟩;
      m.kind = .snapshotSegment ∧ m.dest ≠ 31 ∧ s.mail.readout = some ⟨0, k⟩ ∧ s.link.state ≠ .fault ∧ s.mail.outbound.length < 8
        ∧ (k < 8 ∨ 8 ≤ k) ∧ s.mail.outbound.Pairwise (fun a b => a.priority.code ≤ b.priority.code))
    ∧ (∀ last ∈ [roleNotice, busNotice .waiting, ⟨.bulk, 0, .snapshotSegment, [], .link, .waiting⟩],
      let q := List.replicate 7 roleNotice;
      let s := (contAt .claiming false).setMail { live.mail with outbound := q ++ [last] };
      s.link.state ≠ .fault ∧ s.mail.outbound.Pairwise (fun a b => a.priority.code ≤ b.priority.code) ∧ q.length = 7
        ∧ Priority.safety.code < last.priority.code ∧ last.mark = .waiting ∧ ¬ Priority.bulk.code < last.priority.code
        ∧ (busNotice .contending).mark ≠ .waiting ∧ roleNotice.payload.head? = some (BitVec.ofNat 8 Role.grid.code)) := by decide +kernel

/-- R62, 12.3: the values 6 to 8 of a page in segment 2, and the zero that ends segment 8, worked out by hand. -/
theorem test_segments :
    let p : Page := ⟨[0, 0, 0, 0, 0, 0, 3300, -1, -400] ++ List.replicate 15 0 ++ [-32768, 65535], 0x1234⟩;
    segmentPayload 2 p = [2, 0x0C, 0xE4, 0xFF, 0xFF, 0xFE, 0x70, 0x34]
    ∧ segmentPayload 8 p = [8, 0x80, 0, 0xFF, 0xFF, 0, 0, 0x34] ∧ p.values.length = 26 := by decide +kernel

/-- R192: two dropped claims of one role are handed over again as two. -/
theorem test_dropped_claims :
    let s := dropEffect roleNotice (dropEffect roleNotice live);
    s.cfg.reclaim = [.grid, .grid] ∧ (reclaimDropped s).cfg.reclaim = []
      ∧ (reclaimDropped s).mail.outbound = [roleNotice, roleNotice] := by decide +kernel

/-! ### LINK: notices taken -/

/-- With an invalid configuration, locked out or not. -/
def unready (locked : Bool) : State := { live with cfg := { live.cfg with valid := false }, cont := { live.cont with lockout := locked } }

/-- A notice at the head of the inbound queue, the outbound queue full, each owner in a state in which it refuses. -/
def crowded (n : InNotice) : State :=
  { gridAt .recloseLockout false with
    cont := { live.cont with lockout := true }, retained := { live.retained with releasedLatch := true }
    mail := { live.mail with inbound := [n], outbound := List.replicate 8 waitingNotice } }

theorem witness_UnknownKindsAndReportsAreTaken :
    (∀ dest ∈ [5, 31], let n : InNotice := ⟨0, 7, dest, 31, [], 0⟩
      (State.heard live n).powered = true ∧ (State.heard live n).mail.inbound = n :: [] ∧ Kind.ofCode n.kind = none
        ∧ (n.dest ≠ 31 ∨ n.dest = 31) ∧ live.link.state ≠ .fault ∧ live.mail.outbound.length < 8)
    ∧ (notice 22 []).kind ∈ [16, 17, 18, 21, 22]
    ∧ (∀ n ∈ [notice 31 [], notice 1 [], notice 3 [], notice 4 [], notice 5 [], notice 6 [], notice 7 [4], notice 8 [2], notice 9 [],
        notice 10 [], ⟨1, 7, 5, 2, [], 0⟩], let f := crowded n;
      f.powered = true ∧ f.mail.inbound = n :: [] ∧ 8 ≤ f.mail.outbound.length ∧ n.dest ≠ 31)
    ∧ (Kind.ofCode 31 = none ∧ 7 ∉ live.config.commanders ∧ 3 < (4 : Byte).toNat ∧ 1 < (2 : Byte).toNat
      ∧ (crowded (notice 1 [])).cont.lockout = true ∧ (crowded (notice 3 [])).grid.state = .recloseLockout
      ∧ (crowded (notice 6 [])).retained.releasedLatch = true ∧ (unready false).holds .grid = false
      ∧ (unready false).configValid = false) := by decide +kernel

theorem witness_CommandsAreRefusedByTheChecks :
    (let n : InNotice := ⟨1, 7, 5, 10, [], 0⟩;
      (State.heard live n).powered = true ∧ (State.heard live n).mail.inbound = n :: [] ∧ n.source ∉ live.config.commanders
        ∧ (n.kind, Instr.snapshotRead 0) ∈ [(1, Instr.rackJoin 0), (2, .rackLeave 0), (3, .closeRequest 0), (4, .openRequest 0),
          (5, .lockoutClear 0), (6, .alarmReset 0), (7, .profileSelect 0), (8, .balanceSet 0), (9, .statusRead 0), (10, .snapshotRead 0)])
    ∧ (∀ locked, let s := State.heard (unready locked) (notice 1 []);
      s.powered = true ∧ s.mail.inbound = notice 1 [] :: [] ∧ (notice 1 []).kind = 1 ∧ (notice 1 []).source ∈ s.config.commanders
        ∧ (notice 1 []).payload = [] ∧ s.cont.lockout = locked ∧ s.configValid = false)
    ∧ (∀ n ∈ [notice 7 [4], notice 8 [2], notice 7 [], notice 1 [0]], (State.heard live n).mail.inbound = n :: []
        ∧ n.source ∈ live.config.commanders
        ∧ (n.payload.length ≠ (if n.kind = 7 ∨ n.kind = 8 then 1 else 0)
          ∨ n.kind = 7 ∧ 3 < (n.payload.getD 0 0).toNat ∨ n.kind = 8 ∧ 1 < (n.payload.getD 0 0).toNat))
    ∧ (∀ k ∈ [3, 4, 5], let s := State.heard (unready false) (notice k []);
      s.mail.inbound = notice k [] :: [] ∧ (notice k []).source ∈ s.config.commanders ∧ (notice k []).payload = [] ∧ s.holds .grid = false)
    ∧ ((notice 19 [0]).payload ≠ [] ∧ (notice 20 [4, 0]).payload.length = 2 ∧ 3 < (4 : Byte).toNat ∧ (0 : Byte).toNat = 0
      ∧ 1 < (2 : Byte).toNat ∧ (⟨1, 0, 31, 9, [], 0⟩ : InNotice).dest = 31) := by decide +kernel

theorem witness_ProfileAndBalanceCommandsAreTaken :
    ((notice 7 [3]).kind = 7 ∧ (3 : Byte).toNat ≤ 3 ∧ (notice 8 [1]).kind = 8 ∧ (notice 8 [0]).payload = [0])
    ∧ ∀ v ∈ [0, 1, 3], ∀ k ∈ [7, 8], (State.heard live (notice k [v])).powered = true
      ∧ (State.heard live (notice k [v])).mail.inbound = notice k [v] :: [] ∧ (notice k [v]).source ∈ live.config.commanders := by decide +kernel

theorem witness_ReadsAreAnswered :
    ∀ k ∈ [9, 10], ∀ r ∈ [none, some (⟨3, 8⟩ : Readout)],
      let s := live.setMail { live.mail with inbound := [notice k []], outbound := List.replicate 7 waitingNotice, readout := r };
      s.powered = true ∧ s.mail.inbound = notice k [] :: [] ∧ (notice k []).source ∈ s.config.commanders ∧ (notice k []).payload = []
        ∧ (notice k []).dest ≠ 31 ∧ s.link.state ≠ .fault ∧ s.mail.outbound.length < 8 ∧ (notice k []).kind = k ∧ s.mail.readout = r := by
  decide +kernel

theorem witness_StatusBytesCarryTheStationsState :
    ∀ grid plant, let s := { live with
      cfg := { live.cfg with yielded := ⟨plant, grid, false⟩ }
      alw := { live.alw with published := ⟨254, 254⟩ }, therm := { live.therm with published := 15 }
      plant := { live.plant with stages := List.replicate 4 ⟨true, some 0, false, 0, false⟩ } }
    s.alw.published.chg ≤ 254 ∧ s.alw.published.dis ≤ 254 ∧ s.therm.published ≤ 15 ∧ s.runningStages ≤ 4
      ∧ s.holds .grid = !grid ∧ s.holds .plant = !plant ∧ CellClass.normal ∈ s.classes := by decide +kernel

/-- A role claim of a peer for GRID. -/
def claim (source : Nat) (op : Byte) : InNotice := ⟨1, source, 31, 20, [2, op], 0⟩

theorem witness_RoleClaimFollowsTheTable :
    (∀ source ∈ [4, 5], ∀ op ∈ [false, true], ∀ st ∈ [BreakerState.brkOpen, .closed],
      let n := claim source (BitVec.ofNat 8 op.toNat);
      let s := State.heard (gridAt st true) n;
      s.powered = true ∧ s.mail.inbound = n :: [] ∧ n.kind = 20
        ∧ n.payload = [BitVec.ofNat 8 Role.grid.code, BitVec.ofNat 8 op.toNat] ∧ s.holds .grid = true ∧ s.link.state ≠ .fault
        ∧ s.mail.outbound.length < 8 ∧ s.inOperation .grid = (st != .brkOpen))
    ∧ (4 < live.own ∧ live.own ≤ 5) ∧ (booting 0).holds .supp = false := by decide +kernel

/-! ### CONT -/

/-- The station of a contactor state, on a bus at a voltage (10 mV). -/
def onBus (s : State) (vbus : Int) : State := s.setMeas { s.meas with summary := { s.meas.summary with vbus := vbus } }

theorem witness_RackCommandsMoveTheContactor :
    (∀ v ∈ [499, 500], let s := onBus (State.heard live (notice 1 [])) v;
      s.powered = true ∧ s.mail.inbound = notice 1 [] :: [] ∧ (notice 1 []).source ∈ s.config.commanders ∧ s.contactorSafe
        ∧ s.cont.lockout = false ∧ s.configValid = true ∧ s.cont.joinRequested = false ∧ s.cont.state = .rackOpen
        ∧ ((s.elapse 0).setCont { s.cont with joinRequested := true }).mayJoin ∧ s.cont.claimSeen = none
        ∧ s.mail.outbound.length < 8)
    ∧ (∀ st ∈ [ContState.rackOpen, .waitMatch, .claiming, .closing, .closed, .opening, .welded, .lockout], ∀ aux,
      let s := State.heard (contAt st aux) (notice 2 []);
      s.powered = true ∧ s.mail.inbound = notice 2 [] :: [] ∧ (notice 2 []).source ∈ s.config.commanders ∧ (notice 2 []).payload = []
        ∧ s.contactorSafe ∧ s.cont.state = st ∧ s.cont.auxClosed = aux) := by
  simp only [State.contactorSafe, State.mayJoin_iff]; decide +kernel

theorem witness_DeadBusClaimsTakeTurns :
    (∀ st ∈ [ContState.rackOpen, .claiming], let s := State.heard (contAt st false) (notice 19 []);
      s.powered = true ∧ s.mail.inbound = notice 19 [] :: [] ∧ (notice 19 []).kind = 19 ∧ (notice 19 []).payload = [] ∧ s.cont.state = st)
    ∧ (∀ v ∈ [499, 500], ∀ join, let s := (onBus live v).setCont { live.cont with claimSeen := some 999999, joinRequested := join };
      s.powered = true ∧ s.cont.claimSeen = some 999999 ∧ 1000000 ≤ 999999 + 1 ∧ s.contactorSafe
        ∧ (s.mayJoin ↔ join = true) ∧ s.cont.state = .rackOpen ∧ s.mail.outbound.length < 8)
    ∧ (let m : OutNotice := ⟨.control, 31, .deadBusClaim, [], .cont 4, .contending⟩;
      let s := (contAt .claiming false).setCont { (contAt .claiming false).cont with claim := 4 };
      m.kind = .deadBusClaim ∧ m.owner = .cont 4 ∧ s.cont.state = .claiming ∧ s.cont.claim = 4 ∧ s.cont.auxClosed = false
        ∧ (contAt .claiming false).cont.claim ≠ 4)
    ∧ ((∀ q ∈ [roleNotice], q.kind ≠ .deadBusClaim) ∧ (busNotice .waiting).kind = .deadBusClaim ∧ (busNotice .waiting).mark = .waiting
      ∧ (busNotice .lost).mark = .lost ∧ (busNotice .contending).mark = .contending) := by
  simp only [State.contactorSafe, State.mayJoin_iff]; decide +kernel

/-- The level stands 5 ms at `dt` 1 and not at `dt` 0; the instant of a failed close is over at `dt` 1. -/
theorem witness_ContactChangeMovesTheContactor :
    ∀ st ∈ [ContState.rackOpen, .waitMatch, .claiming, .closing, .closed, .opening, .welded, .lockout], ∀ aux, ∀ late,
      let s := (contAt st aux).setCont { (contAt st aux).cont with closeExpired := late };
      s.powered = true ∧ s.cont.auxClosed = aux ∧ s.cont.state = st ∧ s.cont.closeExpired = late
        ∧ 5000 ≤ s.cont.auxAge + 1 ∧ s.cont.auxAge + 0 < 5000
        ∧ 5000 ≤ ((s.setCont { s.cont with auxAge := 5000 }).cont.auxAge + 0) := by decide +kernel

theorem witness_ContactorTimersExpire :
    (∀ aux, let s := (contAt .closing aux).setCont { (contAt .closing aux).cont with closeTimer := some 99999 };
      s.powered = true ∧ s.cont.state = .closing ∧ s.cont.closeTimer = some 99999 ∧ 100000 ≤ 99999 + 1 ∧ s.cont.auxClosed = aux)
    ∧ (let s := (contAt .opening true).setCont { (contAt .opening true).cont with openTimer := some 99999 };
      s.cont.state = .opening ∧ s.cont.auxClosed = true ∧ s.cont.openTimer = some 99999)
    ∧ (∀ st ∈ [ContState.rackOpen, .claiming, .closed, .opening], ∀ aux,
      let s := (contAt st aux).setCont { (contAt st aux).cont with holdTicks := some 400, isolateRead := true, isolateLevel := true };
      s.cont.holdTicks = some 400 ∧ s.cont.isolateRead = true ∧ s.cont.isolateLevel = true ∧ s.cont.state = st ∧ s.cont.auxClosed = aux) := by
  decide +kernel

/-! ### ALARM_RESET -/

theorem witness_AlarmResetClearsWhatItsOwnersAllow :
    ∀ latch pending, let s := { (State.heard live (notice 6 [])) with
        retained := { live.retained with releasedLatch := latch }, supp := { live.supp with releasePending := pending } };
      s.powered = true ∧ s.mail.inbound = notice 6 [] :: [] ∧ (notice 6 []).kind = 6 ∧ (notice 6 []).source ∈ s.config.commanders
        ∧ (notice 6 []).payload = [] ∧ s.link.state ≠ .fault ∧ s.mail.outbound.length ≤ 5 ∧ s.retained.releasedLatch = latch
        ∧ s.holds .supp = true ∧ s.readDone = true ∧ s.supp.releasePending = pending ∧ (notice 6 []).dest ≠ 31 := by decide +kernel

/-! ### MEAS, CELL -/

/-- In a scan, with some conversions done. -/
def inScan (done time : Nat) : State := live.setMeas { live.meas with scan := some ⟨time, done, List.replicate 26 0⟩, scanTimer := some 99999 }

theorem witness_ScansConvertTheChannelsInOrder :
    (inScan 0 0).powered = true ∧ (inScan 0 0).meas.scanTimer = some 99999 ∧ 100000 ≤ 99999 + 1
    ∧ (∀ k ∈ [0, 15, 16, 23, 24, 25], (inScan k (2499 + 500 * k)).meas.scan = some ⟨2499 + 500 * k, k, List.replicate 26 0⟩
        ∧ (channelsInUse live.config)[k]? = some k ∧ 2000 + 500 * (k + 1) ≤ 2499 + 500 * k + 1)
    ∧ (50 : Int) ≤ 50 ∧ (2000 : Int) ≤ 2000 ∧ (49 : Int) < 50 ∧ (2000 : Int) < 2001 := by decide +kernel

theorem witness_ScanCompletionReachesTheConsumers :
    ∀ n ∈ [8, 16], let s := { (inScan (8 + n + 2) 15000) with cfg := { live.cfg with loaded := some { builtIn 5 with cellCount := n } } };
      s.powered = true ∧ s.meas.scan = some ⟨15000, 8 + n + 2, List.replicate 26 0⟩ ∧ 8 + n + 2 = (channelsInUse s.config).length
        ∧ 1 ≤ s.config.cellCount ∧ s.config.cellCount ≤ 16 := by decide +kernel

/-- At the end of a scan of 8 cell groups of 3300 mV each, the bus at a voltage; join requested or not; in ACTIVE. -/
def measured (st : ContState) (matches' : Nat) (vbus : Int) (join : Bool) : State :=
  let s := { contAt st false with cfg := { live.cfg with loaded := some { builtIn 5 with cellCount := 8, members := 0x23#32 } } }
  (s.setCont { s.cont with matchCount := matches', joinRequested := join }).setMeas
    { live.meas with scanTimer := some 15000
                     scan := some ⟨15000, 18, List.replicate 16 33000 ++ List.replicate 8 650 ++ [0, vbus]⟩ }

/-- The values of that scan: 26400 mV of rack against the bus within 2000 mV, and outside it; a bus at 499 is dead. -/
theorem witness_ScanCompletionReachesTheConsumers_contactor :
    (∀ st ∈ [ContState.rackOpen, .waitMatch], ∀ n ∈ [1, 2], ∀ v ∈ [499, 500, 2440, 2439], let s := measured st n v true;
      ∃ t, exec (.scanCompletion 0) s = .next t ∧ t.mayJoin ∧ s.cont.state = st ∧ s.cont.matchCount = n ∧ s.cont.claimSeen = none
        ∧ s.mail.outbound.length < 8 ∧ (s.scanValues (List.replicate 16 33000 ++ List.replicate 8 650 ++ [0, v])).getD 25 0 = v
        ∧ t.meas.summary.vsum = 26400 ∧ ((t.meas.summary.vsum - v * 10).natAbs ≤ s.config.matchWindow ↔ v = 2440))
    ∧ (∀ st ∈ [ContState.rackOpen, .waitMatch, .claiming, .closing, .closed, .opening], let s := measured st 0 2640 false;
      ∃ t, exec (.scanCompletion 0) s = .next t ∧ ¬ t.mayJoin ∧ s.link.state = .active ∧ s.cont.state = st)
    ∧ ((listening 5).setMeas (measured .rackOpen 0 0 true).meas).link.state ≠ .active := by
  refine ⟨?_, ?_, by decide +kernel⟩
  · intro st hs n hn v hv
    refine ⟨_, rfl, ?_⟩
    rw [State.mayJoin_iff]
    revert st n v
    decide +kernel
  · intro st hs
    refine ⟨_, rfl, ?_⟩
    rw [State.mayJoin_iff]
    revert st
    decide +kernel

theorem witness_CellClassesMoveByRuns :
    let c := builtIn 0;
    (⟨.highWarn, 3, 3, 3, 4, .high⟩ : CellChan).warnRun ≤ 3 ∧ (⟨.highWarn, 3, 3, 3, 4, .high⟩ : CellChan).tripRun ≤ 3
      ∧ c.lowTrip < c.lowWarn ∧ c.lowWarn < c.highWarn ∧ c.highWarn < c.highTrip ∧ 0 ≤ c.cellHyst
      ∧ CellClass.highTrip.latched = true ∧ CellClass.highWarn.severity < 2
      ∧ ((⟨.highWarn, 0, 0, 0, 4, .high⟩ : CellChan).scan c 3499 false).cls = .normal
      ∧ ((⟨.highWarn, 0, 0, 0, 4, .high⟩ : CellChan).scan c 3500 false).cls = .highWarn
      ∧ ((⟨.lowWarn, 0, 0, 0, 3, .low⟩ : CellChan).scan c 3001 false).exitCount = 4
      ∧ ((⟨.lowWarn, 2, 0, 0, 4, .low⟩ : CellChan).scan c 3550 false) = ⟨.highWarn, 3, 0, 0, 0, .high⟩
      ∧ ((⟨.normal, 2, 0, 0, 0, .low⟩ : CellChan).scan c 2950 false) = ⟨.lowWarn, 3, 0, 0, 0, .low⟩ := by decide +kernel

/-! ### ALW -/

theorem witness_TableValueInterpolatesWithFloor :
    (0 : Int) < 100 ∧ (100 : Int) < 150 ∧ (150 : Int) < 400 ∧ (400 : Int) < 450 ∧ (450 : Int) < 550
    ∧ (∀ b ∈ workedProfile.charge, 0 ≤ b.percent ∧ b.percent ≤ 100) ∧ (-1 : Int) < 0 ∧ (550 : Int) ≤ 550 ∧ (0 : Int) ≤ 99 := by decide

theorem witness_VoltagePercentsFollowTheKnees :
    workedProfile.chargeKnee = 3450 ∧ workedProfile.chargeCeiling = 3650 ∧ workedProfile.dischargeFloor = 2800
    ∧ workedProfile.dischargeKnee = 3000 ∧ workedProfile.chargeKnee < workedProfile.chargeCeiling
    ∧ workedProfile.dischargeFloor < workedProfile.dischargeKnee := by decide

/-! ### THERM and PLANT -/

theorem witness_ZoneLevelClimbsAtOnceAndFallsByOne :
    0 < (builtIn 0).zoneStep ∧ 0 ≤ (builtIn 0).zoneHyst ∧ 15 ≤ 15 ∧ nextBase (builtIn 0) 529 15 = 15
    ∧ nextBase (builtIn 0) 519 15 = 14 := by decide +kernel

/-- A plant with its first stage running since some time and the second stopped since some time, their limits taken or not. -/
def plantAt (on off stagger : Nat) (done : Bool) : State :=
  live.setPlant { live.plant with
    stages := [⟨true, some on, done, 0, false⟩, ⟨false, none, false, off, done⟩, ⟨false, none, false, 0, false⟩,
      ⟨false, none, false, 0, false⟩]
    stagger := some stagger, staggerDone := done }

theorem witness_PlantMovesOneStageAtATime :
    (∀ on ∈ [180000000, 180000001], ∀ done, let s := plantAt on 0 0 done;
      s.holds .plant = true ∧ s.plant.stages.length = 4 ∧ s.rcv.stage.isAlarm = false ∧ s.link.state = .active ∧ 0 < s.runningStages
        ∧ s.plant.stages[0]? = some ⟨true, some on, done, 0, false⟩ ∧ (on ≤ 180000000 ∨ 180000000 < on)
        ∧ (∀ j < 4, ∀ h ∈ s.plant.stages[j]?, 0 < j → h.running = false))
    ∧ (∀ off ∈ [300000000, 300000001], ∀ stagger ∈ [30000000, 30000001], ∀ done, let s := plantAt 0 off stagger done;
      s.runningStages < 3 ∧ s.plant.stages[1]? = some ⟨false, none, false, off, done⟩ ∧ s.plant.stagger = some stagger
        ∧ s.plant.staggerDone = done ∧ s.plant.stages[0]? = some ⟨true, some 0, done, 0, false⟩)
    ∧ (let s := (plantAt 0 0 0 false).setRcv { live.rcv with stage := .alarm };
      s.holds .plant = true ∧ s.plant.stages.length = 4 ∧ s.rcv.stage.isAlarm = true)
    ∧ live.powered = true
    ∧ ((plantAt 179999999 299999999 29999999 false).elapse 1).plant.stages[0]? = some ⟨true, some 180000000, false, 1, false⟩ := by
  decide +kernel

/-- R140: at the very instant of the limit an evaluation taken first waits; once PLANT_TIMER_LIMIT has taken the limit it acts. -/
theorem test_plant_limit_order :
    let s := plantAt 180000000 0 0 false;
    (plantEvaluate 0 false s).runningStages = 1
    ∧ ∃ t, exec (.plantTimerLimit 0 (.on 1)) s = .next t ∧ (plantEvaluate 0 false t).runningStages = 0 :=
  ⟨by decide +kernel, _, rfl, by decide +kernel⟩

/-! ### SUPP -/

theorem witness_CountdownReleasesTheAgent :
    let s := { live with supp := ⟨true, 1, false, some 999999, some 9999999, false⟩ };
    s.powered = true ∧ s.holds .supp = true ∧ s.readDone = true ∧ s.retained.releasedLatch = false ∧ s.supp.releasePending = true
      ∧ s.supp.held = false ∧ s.supp.remaining ≤ 1 ∧ s.link.state ≠ .fault ∧ s.mail.outbound.length < 8
      ∧ s.supp.relPulse = some 999999 ∧ 1000000 ≤ 999999 + 1 ∧ s.supp.watch = some 9999999 ∧ 10000000 ≤ 9999999 + 1 := by decide +kernel

/-! ### GRID -/

/-- GRID with its PCS ready and close-requested set, some breaker state, reconnect time and records. -/
def ready (st : BreakerState) (aux : Bool) (reconnect trips : Nat) : State :=
  { gridAt st aux with
    grid := { (gridAt st aux).grid with pcsReady := true, closeRequested := true, reconnect := some reconnect, tripCause := some .fire }
    retained := ⟨List.replicate trips ⟨.gridLoss, 0, false⟩, 0, false⟩ }

theorem witness_CloseRequestFollowsTheBreakerState :
    (∀ st ∈ [BreakerState.brkOpen, .reconnectWait, .closing, .closed, .tripping, .breakerFault, .recloseLockout], ∀ aux,
      let s := State.heard (ready st aux 300000000 2) (notice 3 []);
      s.powered = true ∧ s.mail.inbound = notice 3 [] :: [] ∧ (notice 3 []).kind = 3 ∧ (notice 3 []).source ∈ s.config.commanders
        ∧ (notice 3 []).payload = [] ∧ s.holds .grid = true ∧ s.grid.state = st ∧ s.mayClose ∧ s.grid.brkAux = aux
        ∧ (notice 3 []).dest ≠ 31 ∧ s.link.state ≠ .fault ∧ s.mail.outbound.length < 8)
    ∧ ¬ (ready .brkOpen false 299999999 2).mayClose ∧ ¬ (ready .brkOpen false 300000000 3).mayClose := by
  simp only [State.mayClose_iff]; decide +kernel

theorem witness_OpenRequestFollowsTheBreakerState :
    ∀ st ∈ [BreakerState.brkOpen, .reconnectWait, .closing, .closed, .tripping, .breakerFault, .recloseLockout], ∀ aux, ∀ trips ∈ [2, 3],
      let s := State.heard (ready st aux 300000000 trips) (notice 4 []);
      s.powered = true ∧ s.mail.inbound = notice 4 [] :: [] ∧ (notice 4 []).kind = 4 ∧ (notice 4 []).source ∈ s.config.commanders
        ∧ (notice 4 []).payload = [] ∧ s.holds .grid = true ∧ s.grid.running = true ∧ s.grid.state = st ∧ s.grid.brkAux = aux
        ∧ s.retained.lockoutRecords = trips ∧ s.cfg.rivals.grid = none
        ∧ ({ s.cfg with rivals := ⟨none, some 7, none⟩ } : Cfg).rivals.grid ≠ none ∧ 0 < s.config.reconnectDelay := by decide +kernel

theorem witness_LockoutClearAcknowledgesTheRecords :
    (∀ st ∈ [BreakerState.closed, .recloseLockout], ∀ aux asked, ∀ rival ∈ [none, some 7],
      let s := { State.heard ((ready st aux 0 3).setGrid { (ready st aux 0 3).grid with closeRequested := asked }) (notice 5 []) with
        cfg := { (ready st aux 0 3).cfg with rivals := ⟨none, rival, none⟩ } };
      s.powered = true ∧ s.mail.inbound = notice 5 [] :: [] ∧ (notice 5 []).kind = 5 ∧ (notice 5 []).source ∈ s.config.commanders
        ∧ (notice 5 []).payload = [] ∧ s.holds .grid = true ∧ s.grid.state = st ∧ s.grid.brkAux = aux ∧ s.grid.closeRequested = asked
        ∧ s.cfg.rivals.grid = rival ∧ s.grid.running = true ∧ s.link.state ≠ .fault ∧ s.mail.outbound.length < 8)
    ∧ (ready .reconnectWait false 300000000 0).mayClose ∧ ¬ (ready .reconnectWait false 299999999 0).mayClose := by
  simp only [State.mayClose_iff]; decide +kernel

theorem witness_GridInputsDriveTheBreaker :
    (∀ st ∈ [BreakerState.brkOpen, .reconnectWait, .closing, .closed], ∀ aux, ∀ ok,
      let s := (ready st aux 299999999 2).setGrid { (ready st aux 299999999 2).grid with gridOk := ok, pcsReady := ok };
      s.powered = true ∧ s.grid.running = true ∧ s.grid.gridOk = ok ∧ s.grid.pcsReady = ok ∧ s.grid.state = st ∧ s.grid.brkAux = aux
        ∧ s.grid.gridOkAge + 0 < 2000 ∧ 2000 ≤ s.grid.gridOkAge + 1 ∧ s.grid.pcsReadyAge + 0 < 5000 ∧ 5000 ≤ s.grid.pcsReadyAge + 1)
    ∧ ((ready .reconnectWait false 299999999 2).elapse 1).mayClose
    ∧ ¬ ((ready .reconnectWait false 299999999 2).elapse 0).mayClose := by
  simp only [State.mayClose_iff]; decide +kernel

theorem witness_BreakerContactDrivesTheBreaker :
    ∀ st ∈ [BreakerState.brkOpen, .reconnectWait, .closing, .closed, .tripping, .breakerFault, .recloseLockout], ∀ aux,
      let s := ready st aux 0 7;
      s.powered = true ∧ s.grid.running = true ∧ s.grid.brkAux = aux ∧ s.grid.state = st ∧ s.retained.records.length < 8
        ∧ s.link.state ≠ .fault ∧ s.mail.outbound.length < 8 ∧ 0 < s.config.reconnectDelay ∧ s.grid.tripCause = some .fire
        ∧ s.grid.brkAuxAge + 0 < 5000 ∧ 5000 ≤ s.grid.brkAuxAge + 1 := by decide +kernel

theorem witness_GridTimersExpire :
    ∀ st ∈ [BreakerState.closing, .tripping], ∀ aux,
      let s := (ready st aux 0 7).setGrid
        { (ready st aux 0 7).grid with closePulse := some 199999, closeTimer := some 499999, tripTimer := some 199999 };
      s.powered = true ∧ s.grid.closePulse = some 199999 ∧ 200000 ≤ 199999 + 1 ∧ s.grid.running = true ∧ s.grid.state = st
        ∧ s.grid.closeTimer = some 499999 ∧ 500000 ≤ 499999 + 1 ∧ s.grid.tripTimer = some 199999 ∧ s.grid.tripCause = some .fire
        ∧ s.grid.brkAux = aux ∧ s.retained.records.length < 8 ∧ s.link.state ≠ .fault ∧ s.mail.outbound.length < 8
        ∧ 0 < s.config.reconnectDelay := by decide +kernel

/-! ### Invariants -/

/-- A closed rack with a closed breaker, a running stage and bleed drivers on, at a command. -/
def busy (c : Instr) : State :=
  { ready .closed true 300000000 2 with
    cont := { (contAt .closed true).cont with claimSeen := some 5 }
    cell := { live.cell with balanceEnable := true, bleed := List.replicate 4 true ++ List.replicate 12 false }
    plant := (plantAt 0 0 0 false).plant
    pending := [c] }

theorem witness_StepsKeepTheContactorSafe : ∃ t, (busy (.lsyncRise 1)).contactorSafe ∧ step (busy (.lsyncRise 1)) = .next t
    ∧ t.cont.state.joining = true ∧ (busy (.lsyncRise 1)).outputs.contCoil = true := by
  refine ⟨_, ?_, rfl, ?_⟩
  · rw [State.contactorSafe, State.mayJoin_iff]; decide +kernel
  · decide +kernel

theorem witness_StepsKeepTheBreakerSafe : ∃ t, (busy (.lsyncRise 1)).breakerSafe ∧ step (busy (.lsyncRise 1)) = .next t
    ∧ t.grid.state.engaged = true := by
  refine ⟨_, ?_, rfl, ?_⟩
  · unfold State.breakerSafe State.breakerJustified; decide +kernel
  · decide +kernel

theorem witness_StepsKeepQueuesAndCountsInBounds :
    ∃ t, (busy (.lsyncRise 1)).queuesSafe ∧ (busy (.lsyncRise 1)).countsSafe ∧ step (busy (.lsyncRise 1)) = .next t := by
  refine ⟨_, ?_, ?_, rfl⟩
  · unfold State.queuesSafe; decide +kernel
  · unfold State.countsSafe; decide +kernel

theorem witness_StepsKeepTheBleedDriversSafe : ∃ t, (busy (.lsyncRise 1)).bleedSafe ∧ step (busy (.lsyncRise 1)) = .next t
    ∧ t.bleedCount = 4 := by
  refine ⟨_, ?_, rfl, ?_⟩
  · unfold State.bleedSafe; decide +kernel
  · decide +kernel

theorem witness_StepsKeepTheAllowanceCapped : ∃ t, (busy (.lsyncRise 1)).allowanceSafe ∧ step (busy (.lsyncRise 1)) = .next t := by
  refine ⟨_, ?_, rfl⟩
  unfold State.allowanceSafe; decide +kernel

theorem witness_StepsKeepTheLimitsCurrent :
    ∃ t, (busy (.lsyncRise 1)).breakerSafe ∧ (busy (.lsyncRise 1)).limitsSafe ∧ step (busy (.lsyncRise 1)) = .next t := by
  refine ⟨_, ?_, ?_, rfl⟩
  · unfold State.breakerSafe State.breakerJustified; decide +kernel
  · rw [State.limitsSafe_iff]; decide +kernel

theorem witness_StepsKeepThePlantSafe : ∃ t, (busy (.lsyncRise 1)).plantSafe ∧ step (busy (.lsyncRise 1)) = .next t
    ∧ t.runningStages = 1 := by
  refine ⟨_, ?_, rfl, ?_⟩
  · unfold State.plantSafe; decide +kernel
  · decide +kernel

/-- Every latch set, and a countdown that ends with this command: the released latch is then not yet set. -/
theorem witness_LatchesStandUntilTheirReset :
    (let s := { live with
        retained := ⟨[], 0, true⟩, cont := { live.cont with lockout := true }
        link := { live.link with state := .fault, faultReason := some .addressClash }, fire := { live.fire with localStage := .alarm } };
      (∃ t, exec (.lsyncRise 1) s = .next t) ∧ (∀ pins, Instr.lsyncRise 1 ≠ .powerOnReset pins) ∧ Instr.lsyncRise 1 ≠ .supplyLoss
        ∧ (∀ pins, Instr.lsyncRise 1 ≠ .pinReset pins) ∧ (∀ dt, Instr.lsyncRise 1 ≠ .alarmReset dt)
        ∧ s.retained.releasedLatch = true ∧ s.cont.lockout = true ∧ s.link.state = .fault ∧ s.fire.localStage = .alarm)
    ∧ (let s := { live with supp := ⟨true, 1, false, none, none, false⟩ };
      ∃ t, exec (.countdownExpiry 1) s = .next t ∧ s.supp.relPulse = none ∧ t.supp.relPulse ≠ none) := by
  refine ⟨⟨⟨_, rfl⟩, ?_, by decide, ?_, ?_, by decide +kernel⟩, ⟨_, rfl, rfl, by decide +kernel⟩⟩ <;> intro x h <;> cases h

end Sys2Proof.Tests
end

section
/-! The class of one cell-group channel at a scan completion (R82 to R85): the three parts of `CellChan.scan` (count, exit, entry) by
their own rules, then what the whole completion does to a channel of each severity. -/

namespace Sys2Proof.Machine

/-! ### The candidate and the counts (R82, R83) -/

theorem bump_eq_ite {p : Prop} [Decidable p] {holds : Bool} (h : holds = true ↔ p) (top n : Nat) :
    bump top holds n = if p then min top (n + 1) else 0 := by
  simp only [bump, h]

theorem bump_le (top : Nat) (holds : Bool) (n : Nat) : bump top holds n ≤ top := by
  unfold bump; split <;> omega

section Candidate
variable {c : Config} {v : Int} {mark : Bool}

theorem cellCandidate_eq_openWire : cellCandidate c v mark = .openWire ↔ mark = true := by
  unfold cellCandidate; grind

theorem one_le_severity_cellCandidate (hhigh : c.highWarn < c.highTrip) (hlow : c.lowTrip < c.lowWarn) :
    1 ≤ (cellCandidate c v mark).severity ↔ mark = true ∨ v ≤ c.lowWarn ∨ c.highWarn ≤ v := by
  unfold cellCandidate; (repeat' split) <;> grind [CellClass.severity]

theorem two_le_severity_cellCandidate (hlow : c.lowTrip < c.lowWarn) (hband : c.lowWarn < c.highWarn) :
    2 ≤ (cellCandidate c v mark).severity ↔ mark = true ∨ v ≤ c.lowTrip ∨ c.highTrip ≤ v := by
  unfold cellCandidate; (repeat' split) <;> grind [CellClass.severity]

theorem nextSide_cellCandidate (hlow : c.lowTrip < c.lowWarn) (hband : c.lowWarn < c.highWarn) (hhigh : c.highWarn < c.highTrip)
    (last : Side) : nextSide (cellCandidate c v mark) last =
      if mark = true then last else if v ≤ c.lowWarn then .low else if c.highWarn ≤ v then .high else last := by
  unfold cellCandidate; grind [nextSide]

end Candidate

/-- This scan counts towards the exit of the channel's WARN class (R83). -/
def CellChan.meetsExit (c : Config) (v : Int) (mark : Bool) (ch : CellChan) : Bool :=
  exitMet c ch.cls v && cellCandidate c v mark != .openWire

theorem CellChan.meetsExit_iff (c : Config) (v : Int) (mark : Bool) (ch : CellChan) :
    ch.meetsExit c v mark = true ↔ mark = false
      ∧ (ch.cls = .highWarn ∧ v < c.highWarn - c.cellHyst ∨ ch.cls = .lowWarn ∧ c.lowWarn + c.cellHyst < v) := by
  have hcand : (cellCandidate c v mark != .openWire) = true ↔ mark = false := by
    rw [bne_iff_ne, Ne, cellCandidate_eq_openWire, Bool.not_eq_true]
  rw [meetsExit, Bool.and_eq_true, hcand, and_comm]
  cases ch.cls <;> simp [exitMet]

section Count
variable (c : Config) (v : Int) (mark : Bool) (ch : CellChan)

@[simp] theorem CellChan.count_cls : (ch.count c v mark).cls = ch.cls := rfl

theorem CellChan.count_exitCount : (ch.count c v mark).exitCount = bump 5 (ch.meetsExit c v mark) ch.exitCount := rfl

end Count

/-! ### Exit and entry (R84, R85) -/

section Exit
variable {ch : CellChan}

@[simp] theorem CellChan.exit_warnRun : ch.exit.warnRun = ch.warnRun := by unfold exit; split <;> rfl
@[simp] theorem CellChan.exit_tripRun : ch.exit.tripRun = ch.tripRun := by unfold exit; split <;> rfl
@[simp] theorem CellChan.exit_openRun : ch.exit.openRun = ch.openRun := by unfold exit; split <;> rfl
@[simp] theorem CellChan.exit_lastSide : ch.exit.lastSide = ch.lastSide := by unfold exit; split <;> rfl

theorem CellChan.exit_of_five (hcls : ch.cls.severity = 1) (hfive : ch.exitCount = 5) :
    ch.exit = { ch with cls := .normal, exitCount := 0 } := if_pos ⟨hcls, hfive⟩

theorem CellChan.exit_of_ne_five (h : ch.exitCount ≠ 5) : ch.exit = ch := if_neg fun hdue => h hdue.2

theorem CellChan.exit_of_severity_ne_one (h : ch.cls.severity ≠ 1) : ch.exit = ch := if_neg fun hdue => h hdue.1

theorem CellChan.exit_severity_le : ch.exit.cls.severity ≤ ch.cls.severity := by
  unfold exit; split
  · exact Nat.zero_le _
  · exact Nat.le_refl _

end Exit

/-- The highest level whose run has reached 3 (R84). -/
def CellChan.runLevel (ch : CellChan) : Nat :=
  if ch.openRun = 3 then 3 else if ch.tripRun = 3 then 2 else if ch.warnRun = 3 then 1 else 0

section Entry
variable {ch : CellChan}

theorem CellChan.runLevel_eq_three (hopen : ch.openRun = 3) : ch.runLevel = 3 := if_pos hopen

theorem CellChan.runLevel_eq_two (hopen : ch.openRun < 3) (htrip : ch.tripRun = 3) : ch.runLevel = 2 := by
  rw [runLevel, if_neg (Nat.ne_of_lt hopen), if_pos htrip]

theorem CellChan.runLevel_eq_one (hopen : ch.openRun < 3) (htrip : ch.tripRun < 3) (hwarn : ch.warnRun = 3) : ch.runLevel = 1 := by
  rw [runLevel, if_neg (Nat.ne_of_lt hopen), if_neg (Nat.ne_of_lt htrip), if_pos hwarn]

theorem CellChan.runLevel_eq_zero (hopen : ch.openRun < 3) (htrip : ch.tripRun < 3) (hwarn : ch.warnRun < 3) : ch.runLevel = 0 := by
  rw [runLevel, if_neg (Nat.ne_of_lt hopen), if_neg (Nat.ne_of_lt htrip), if_neg (Nat.ne_of_lt hwarn)]

theorem CellChan.runLevel_le_two (hopen : ch.openRun < 3) : ch.runLevel ≤ 2 := by
  rw [runLevel, if_neg (Nat.ne_of_lt hopen)]; split
  · exact Nat.le_refl 2
  · split <;> decide

theorem CellChan.runLevel_le_one (hopen : ch.openRun < 3) (htrip : ch.tripRun < 3) : ch.runLevel ≤ 1 := by
  rw [runLevel, if_neg (Nat.ne_of_lt hopen), if_neg (Nat.ne_of_lt htrip)]; split <;> decide

theorem CellChan.enter_eq : ch.enter =
    if ch.cls.severity < ch.runLevel then { ch with cls := enteredClass ch.runLevel ch.lastSide, exitCount := 0 } else ch := rfl

@[simp] theorem CellChan.enter_warnRun : ch.enter.warnRun = ch.warnRun := by rw [enter_eq]; split <;> rfl
@[simp] theorem CellChan.enter_tripRun : ch.enter.tripRun = ch.tripRun := by rw [enter_eq]; split <;> rfl
@[simp] theorem CellChan.enter_openRun : ch.enter.openRun = ch.openRun := by rw [enter_eq]; split <;> rfl
@[simp] theorem CellChan.enter_lastSide : ch.enter.lastSide = ch.lastSide := by rw [enter_eq]; split <;> rfl

theorem CellChan.enter_of_lt (h : ch.cls.severity < ch.runLevel) :
    ch.enter = { ch with cls := enteredClass ch.runLevel ch.lastSide, exitCount := 0 } := if_pos h

theorem CellChan.enter_of_le (h : ch.runLevel ≤ ch.cls.severity) : ch.enter = ch := if_neg (Nat.not_lt.mpr h)

theorem CellClass.eq_openWire_of_three_le {cls : CellClass} (h : 3 ≤ cls.severity) : cls = .openWire := by
  cases cls <;> simp_all [CellClass.severity]

/-- A channel at OPEN_WIRE already stands there; every other one enters it. -/
theorem CellChan.enter_of_open (hopen : ch.openRun = 3) : ch.enter.cls = .openWire := by
  have hlevel := runLevel_eq_three hopen
  rcases Nat.lt_or_ge ch.cls.severity 3 with hlt | hge
  · rw [enter_of_lt (hlevel ▸ hlt), hlevel]; rfl
  · rw [enter_of_le (hlevel ▸ hge)]; exact CellClass.eq_openWire_of_three_le hge

theorem enteredClass_two (side : Side) : enteredClass 2 side = if side = .low then .lowTrip else .highTrip := by
  cases side <;> rfl

theorem enteredClass_one (side : Side) : enteredClass 1 side = if side = .low then .lowWarn else .highWarn := by
  cases side <;> rfl

theorem CellChan.enter_of_trip (hopen : ch.openRun < 3) (htrip : ch.tripRun = 3) (hcls : ch.cls.severity < 2) :
    ch.enter.cls = if ch.lastSide = .low then .lowTrip else .highTrip := by
  have hlevel := runLevel_eq_two hopen htrip
  rw [enter_of_lt (hlevel ▸ hcls), hlevel]; exact enteredClass_two _

theorem CellChan.enter_of_warn (hopen : ch.openRun < 3) (htrip : ch.tripRun < 3) (hwarn : ch.warnRun = 3) (hcls : ch.cls = .normal) :
    ch.enter.cls = if ch.lastSide = .low then .lowWarn else .highWarn := by
  have hlevel := runLevel_eq_one hopen htrip hwarn
  have hlt : ch.cls.severity < ch.runLevel := by rw [hlevel, hcls]; decide
  rw [enter_of_lt hlt, hlevel]; exact enteredClass_one _

theorem CellChan.enter_of_no_run (hopen : ch.openRun < 3) (htrip : ch.tripRun < 3) (hwarn : ch.warnRun < 3) : ch.enter = ch :=
  enter_of_le (by rw [runLevel_eq_zero hopen htrip hwarn]; exact Nat.zero_le _)

/-- Entry moves a class with the exit count at 0, or changes nothing. -/
theorem CellChan.enter_eq_or (ch : CellChan) : ch.enter = ch ∨ ch.enter.exitCount = 0 := by
  rcases Nat.lt_or_ge ch.cls.severity ch.runLevel with hlt | hge
  · exact .inr (by rw [enter_of_lt hlt])
  · exact .inl (enter_of_le hge)

/-- Exit moves a class with the exit count at 0, or changes nothing. -/
theorem CellChan.exit_eq_or (ch : CellChan) : ch.exit = ch ∨ ch.exit.exitCount = 0 := by
  unfold exit; split
  · exact .inr rfl
  · exact .inl rfl

end Entry

/-! ### The whole completion -/

section Scan
variable {c : Config} {v : Int} {mark : Bool} {ch : CellChan}

theorem CellChan.scan_warnRun :
    (ch.scan c v mark).warnRun = bump 3 (decide (1 ≤ (cellCandidate c v mark).severity)) ch.warnRun := by
  simp only [scan, enter_warnRun, exit_warnRun, count]

theorem CellChan.scan_tripRun :
    (ch.scan c v mark).tripRun = bump 3 (decide (2 ≤ (cellCandidate c v mark).severity)) ch.tripRun := by
  simp only [scan, enter_tripRun, exit_tripRun, count]

theorem CellChan.scan_openRun : (ch.scan c v mark).openRun = bump 3 (cellCandidate c v mark == .openWire) ch.openRun := by
  simp only [scan, enter_openRun, exit_openRun, count]

theorem CellChan.scan_lastSide : (ch.scan c v mark).lastSide = nextSide (cellCandidate c v mark) ch.lastSide := by
  simp only [scan, enter_lastSide, exit_lastSide, count]

theorem CellChan.scan_warnRun_le : (ch.scan c v mark).warnRun ≤ 3 := scan_warnRun ▸ bump_le ..

theorem CellChan.scan_of_open (hopen : (ch.scan c v mark).openRun = 3) : (ch.scan c v mark).cls = .openWire :=
  enter_of_open (by simpa only [scan, enter_openRun] using hopen)

theorem CellChan.scan_of_trip (hopen : (ch.scan c v mark).openRun < 3) (htrip : (ch.scan c v mark).tripRun = 3)
    (hcls : ch.cls.severity < 2) :
    (ch.scan c v mark).cls = if (ch.scan c v mark).lastSide = .low then .lowTrip else .highTrip := by
  simp only [scan, enter_openRun, enter_tripRun, enter_lastSide] at hopen htrip ⊢
  exact enter_of_trip hopen htrip (Nat.lt_of_le_of_lt exit_severity_le hcls)

/-- Outside the WARN classes there is no exit (R85). -/
theorem CellChan.scan_eq_enter_of_not_warn (hcls : ch.cls.severity ≠ 1) : ch.scan c v mark = (ch.count c v mark).enter :=
  congrArg enter (exit_of_severity_ne_one hcls)

theorem CellChan.scan_of_latched (hcls : ch.cls.latched = true) (hopen : (ch.scan c v mark).openRun < 3) :
    (ch.scan c v mark).cls = ch.cls := by
  have hsev : 2 ≤ ch.cls.severity := of_decide_eq_true hcls
  have hscan : ch.scan c v mark = (ch.count c v mark).enter := scan_eq_enter_of_not_warn (by omega)
  rw [hscan, enter_openRun] at hopen
  rw [hscan, enter_of_le (Nat.le_trans (runLevel_le_two hopen) hsev), count_cls]

theorem CellChan.scan_of_normal_of_warn (hcls : ch.cls = .normal) (hopen : (ch.scan c v mark).openRun < 3)
    (htrip : (ch.scan c v mark).tripRun < 3) (hwarn : (ch.scan c v mark).warnRun = 3) :
    (ch.scan c v mark).cls = if (ch.scan c v mark).lastSide = .low then .lowWarn else .highWarn := by
  have hscan : ch.scan c v mark = (ch.count c v mark).enter := scan_eq_enter_of_not_warn (by rw [hcls]; decide)
  simp only [hscan, enter_openRun, enter_tripRun, enter_warnRun, enter_lastSide] at hopen htrip hwarn ⊢
  exact enter_of_warn hopen htrip hwarn hcls

theorem CellChan.scan_of_normal_of_no_run (hcls : ch.cls = .normal) (hopen : (ch.scan c v mark).openRun < 3)
    (htrip : (ch.scan c v mark).tripRun < 3) (hwarn : (ch.scan c v mark).warnRun < 3) : (ch.scan c v mark).cls = .normal := by
  have hscan : ch.scan c v mark = (ch.count c v mark).enter := scan_eq_enter_of_not_warn (by rw [hcls]; decide)
  simp only [hscan, enter_openRun, enter_tripRun, enter_warnRun] at hopen htrip hwarn
  rw [hscan, enter_of_no_run hopen htrip hwarn, count_cls, hcls]

/-! A WARN class below three trips and three open marks. -/

/-- The exit count comes to 5 at this scan: the class is NORMAL before the entry (R85). -/
theorem CellChan.scan_of_warn_of_exit (hcls : ch.cls.severity = 1) (hopen : (ch.scan c v mark).openRun < 3)
    (htrip : (ch.scan c v mark).tripRun < 3) (hmet : ch.meetsExit c v mark = true) (hfour : 4 ≤ ch.exitCount) :
    (ch.scan c v mark).exitCount = 0 ∧ (ch.scan c v mark).cls =
      if (ch.scan c v mark).warnRun < 3 then .normal
      else if (ch.scan c v mark).lastSide = .low then .lowWarn else .highWarn := by
  have hfive : (ch.count c v mark).exitCount = 5 := by
    rw [count_exitCount, hmet]; exact Nat.min_eq_left (by omega)
  have hexit := exit_of_five (ch := ch.count c v mark) hcls hfive
  have hwarn : (ch.scan c v mark).warnRun ≤ 3 := scan_warnRun_le
  simp only [scan, enter_openRun, enter_tripRun, enter_warnRun, enter_lastSide] at hopen htrip hwarn ⊢
  refine ⟨?_, ?_⟩
  · rcases enter_eq_or (ch.count c v mark).exit with hsame | hzero
    · rw [hsame, hexit]
    · exact hzero
  · split
    next hlt => rw [enter_of_no_run hopen htrip hlt, hexit]
    next hge => exact enter_of_warn hopen htrip (by omega) (by rw [hexit])

/-- Short of five the class stands: a warn run of 3 is no entry above it (R84). -/
theorem CellChan.scan_of_warn_of_short (hcls : ch.cls.severity = 1) (hopen : (ch.scan c v mark).openRun < 3)
    (htrip : (ch.scan c v mark).tripRun < 3) (hshort : ch.meetsExit c v mark = true → ch.exitCount < 4) :
    (ch.scan c v mark).exitCount = (if ch.meetsExit c v mark = true then ch.exitCount + 1 else 0)
      ∧ (ch.scan c v mark).cls = ch.cls := by
  have hcount : (ch.count c v mark).exitCount = if ch.meetsExit c v mark = true then ch.exitCount + 1 else 0 := by
    rw [count_exitCount, bump]
    split
    next hmet => exact Nat.min_eq_right (by have := hshort hmet; omega)
    next => rfl
  have hne : (ch.count c v mark).exitCount ≠ 5 := by
    rw [hcount]; split
    next hmet => have := hshort hmet; omega
    next => decide
  have hscan : ch.scan c v mark = (ch.count c v mark).enter := congrArg enter (exit_of_ne_five hne)
  simp only [hscan, enter_openRun, enter_tripRun] at hopen htrip ⊢
  rw [enter_of_le (Nat.le_trans (runLevel_le_one hopen htrip) (Nat.le_of_eq hcls.symm))]
  exact ⟨hcount, count_cls c v mark ch⟩

theorem CellChan.scan_of_warn_eq_normal_iff (hcls : ch.cls.severity = 1) (hopen : (ch.scan c v mark).openRun < 3)
    (htrip : (ch.scan c v mark).tripRun < 3) :
    (ch.scan c v mark).cls = .normal ↔
      4 ≤ ch.exitCount ∧ ch.meetsExit c v mark = true ∧ (ch.scan c v mark).warnRun < 3 := by
  by_cases hexit : ch.meetsExit c v mark = true ∧ 4 ≤ ch.exitCount
  · obtain ⟨hmet, hfour⟩ := hexit
    obtain ⟨-, hscan⟩ := scan_of_warn_of_exit hcls hopen htrip hmet hfour
    rw [hscan]
    grind
  · have hstands := (scan_of_warn_of_short hcls hopen htrip (by grind)).2
    have hne : ch.cls ≠ .normal := fun h => by rw [h] at hcls; exact absurd hcls (by decide)
    rw [hstands]
    grind

/-- R83: the exit count is 0 outside a WARN class, and where exit or entry changed the class. -/
theorem CellChan.scan_exitCount_eq_zero (h : ch.cls ≠ .highWarn ∧ ch.cls ≠ .lowWarn ∨ (ch.scan c v mark).cls ≠ ch.cls) :
    (ch.scan c v mark).exitCount = 0 := by
  rcases enter_eq_or (ch.count c v mark).exit with henter | hzero
  · rcases exit_eq_or (ch.count c v mark) with hexit | hzero
    · have hscan : ch.scan c v mark = ch.count c v mark := henter.trans hexit
      rw [hscan, count_cls] at h
      obtain ⟨hhigh, hlow⟩ := h.resolve_right (fun hne => hne rfl)
      have hmet : ch.meetsExit c v mark = false := by
        rw [← Bool.not_eq_true, meetsExit_iff]
        rintro ⟨-, ⟨heq, -⟩ | ⟨heq, -⟩⟩
        · exact hhigh heq
        · exact hlow heq
      rw [hscan, count_exitCount, hmet]; rfl
    · exact (congrArg exitCount henter).trans hzero
  · exact hzero

end Scan

theorem CellClass.severity_eq_one_iff {cls : CellClass} : cls.severity = 1 ↔ cls = .highWarn ∨ cls = .lowWarn := by
  cases cls <;> decide

section
open CellChan

/-- Settles O41: each clause is one of the rules above, with the severities of the candidate spelled out by the four thresholds. -/
theorem cellClassesMoveByRuns : Obligations.CellClassesMoveByRuns := by
  intro c v mark ch r hr _ _ _ hlow hband hhigh _
  subst hr
  refine ⟨?warnRun, ?tripRun, ?openRun, ?lastSide, scan_of_open, scan_of_trip, ?warn, ?normal, scan_of_latched, ?highExit,
    ?lowExit, ?exit⟩
  case warnRun => rw [scan_warnRun]; exact bump_eq_ite (by rw [decide_eq_true_iff, one_le_severity_cellCandidate hhigh hlow]) ..
  case tripRun => rw [scan_tripRun]; exact bump_eq_ite (by rw [decide_eq_true_iff, two_le_severity_cellCandidate hlow hband]) ..
  case openRun => rw [scan_openRun]; exact bump_eq_ite (by rw [beq_iff_eq, cellCandidate_eq_openWire]) ..
  case lastSide => rw [scan_lastSide]; exact nextSide_cellCandidate hlow hband hhigh ..
  case warn => exact fun hopen htrip hwarn hcls => scan_of_normal_of_warn hcls hopen htrip hwarn
  case normal => exact fun hopen htrip hwarn hcls => scan_of_normal_of_no_run hcls hopen htrip hwarn
  case highExit =>
    intro hcls htrip hopen
    rw [scan_of_warn_eq_normal_iff (by rw [hcls]; rfl) hopen htrip, meetsExit_iff, hcls]
    grind
  case lowExit =>
    intro hcls htrip hopen
    rw [scan_of_warn_eq_normal_iff (by rw [hcls]; rfl) hopen htrip, meetsExit_iff, hcls]
    grind
  case exit =>
    intro met hmet
    obtain rfl : met = ch.meetsExit c v mark := Bool.eq_iff_iff.mpr (hmet.trans (meetsExit_iff c v mark ch).symm)
    refine ⟨fun hcls htrip hopen => ?_, scan_exitCount_eq_zero⟩
    have hsev := CellClass.severity_eq_one_iff.mpr hcls
    refine ⟨scan_of_warn_of_exit hsev hopen htrip, fun hyes hshort => ?_, fun hno => ?_⟩
    · simpa only [hyes, if_true] using scan_of_warn_of_short hsev hopen htrip fun _ => hshort
    · simpa [hno] using scan_of_warn_of_short hsev hopen htrip (by simp [hno])

end

end Sys2Proof.Machine
end
